-- ==== Sys2Proof/Word.lean ====
section
/-! DEFINITION. The plain words of the UW418: bytes, line numbers, byte masks, sequence numbers, epochs, times. A granule
number, 0 to 16777215 (R76), is a plain `Nat`: it indexes a set and is never wrapped. Every arithmetic on these words that
a test could show wrong stands in Machine/Operands.lean, not here. -/

namespace Sys2Proof

/-- One byte of a message, a frame or a line. -/
abbrev Byte := BitVec 8

/-- A host request tag, 0 to 15 (the field table of 03, section 3.1). -/
abbrev Tag := Fin 16

/-- A window index, 0 to 15 (R1). -/
abbrev WinIdx := Fin 16

/-- A line number, 0 to 2^34 - 1. The line address is the line number times 64 (03, section 3.1), so a line
held this way is aligned by its type; `Line.address` of Machine/Operands.lean gives the 40-bit address. -/
abbrev Line := BitVec 34

/-- A byte mask: bit `i` is set when byte position `i` of the line is in the set. -/
abbrev Mask := BitVec 64

/-- The 64 data bytes of a line, byte position 0 first. -/
abbrev LineData := Vector Byte 64

/-- A sequence number, taken modulo 65536 (00, Conventions, Sequence arithmetic). -/
abbrev Seq := BitVec 16

/-- An epoch: 1 to 255, with 0 for no session (00, Conventions, Epoch arithmetic). -/
abbrev Epoch := BitVec 8

/-- A value of the 32-bit microsecond time counter (R183). -/
abbrev Time := BitVec 32

end Sys2Proof
end

