-- ==== Sys2Proof/Config.lean ====
section
/-! DEFINITION. What is fixed for the part (00, Conventions: fixed capacities and timing parameters), and the one
free value: the order in which coinciding steps of the unit itself are taken. -/

namespace Sys2Proof.Config

/-- Update journal, entries (R19). -/
def journalSize : Nat := 512
/-- Host reserve in the journal, entries (R32). -/
def hostReserve : Nat := 64
/-- In-flight limit (R23). -/
def inFlightLimit : Nat := 32
/-- Held tags on one entry (R20, R26). -/
def heldTagLimit : Nat := 16
/-- Apply queue, entries (R138). -/
def applyQueueSize : Nat := 48
/-- Apply-queue level for hailing and adopting (R103, R105). -/
def hailLevel : Nat := 16
/-- Apply-urgent level (R70, row 2). -/
def applyUrgentLevel : Nat := 40
/-- Report queue, frames (R144). -/
def reportQueueSize : Nat := 8
/-- Fault list, records (R177). -/
def faultListSize : Nat := 8
/-- Arbiter passed-over limit (R70, R71). -/
def passedOverLimit : Nat := 4
/-- Largest window and largest total of the enabled windows, granules (R4, R5). -/
def windowLimit : Nat := 65536
/-- Highest granule number (R1). -/
def granuleMax : Nat := 16777215
/-- Lines of a granule (R2). -/
def linesPerGranule : Nat := 1024
/-- tHAIL, fixed (00, timing table). -/
def tHail : Nat := 100

/-- FREE VALUE. Where several steps of the unit itself fall due at one moment the spec lets any be taken first
(R33, R54, R109, R124, R162, R173). The `n`-th such choice is made by this number, of which nothing is known: no body,
so no proof can rest on an order (assumption log 3 and 4). -/
opaque freeOrder : Nat → Nat

end Sys2Proof.Config
end

