-- ==== Sys2Proof/Syntax.lean ====
section
/-! DEFINITION. The commands of the block: one constructor of `Instr` for each row of spec/opcode_table.json, with the
operands the spec gives that operation or event. -/

namespace Sys2Proof

/-- The operation of a host request (03, section 3.1). A write carries its mask, its data and one parity bit for each
data byte. -/
inductive HostOp where
  | read
  | write (mask : Mask) (data : LineData) (parity : BitVec 64)
  deriving DecidableEq, Repr

/-- A host request as presented: tag, operation, line (03, section 3.1). -/
structure HostRequest where
  tag  : Tag
  line : Line
  op   : HostOp
  deriving DecidableEq, Repr

/-- The verdict of the inbound signal-present detector (R95). -/
inductive LaneSignal where
  | present
  | absent
  deriving DecidableEq, Repr

/-- The two edges of the cold reset pin, a level input (R184). The release carries the verdict of the signal-present
detector, which the unit follows from then on (R95). -/
inductive ColdPinEdge where
  | asserted
  | released (signal : LaneSignal)
  deriving DecidableEq, Repr

/-- What a memory completion carries (R65). A READ completing OK carries data and a returned-poison indication. A WRITE
carries its status alone, so both operands of `ok` are left unread when the operation on the port is a WRITE. -/
inductive Completion where
  | ok (data : LineData) (poison : Bool)
  | error
  deriving DecidableEq, Repr

/-- The three kinds of entry and of data frame (R20, R96). -/
inductive EntryKind where
  | update
  | sweep
  | mark
  deriving DecidableEq, Repr

/-- The fields of an UPDATE, SWEEP or MARK frame (R96). A SWEEP frame carries no mask: all 64 bytes are meant. -/
structure DataFrame where
  kind   : EntryKind
  epoch  : Epoch
  seq    : Seq
  window : WinIdx
  target : Line
  mask   : Mask
  poison : Bool
  data   : LineData
  deriving DecidableEq, Repr

/-- The fields of a HELLO frame: the sender role, the epoch, and from a SOURCE the base sequence (R96). -/
inductive Hello where
  | source (epoch : Epoch) (base : Seq)
  | sink (epoch : Epoch)
  deriving DecidableEq, Repr

/-- The reason of a NAK (R96). -/
inductive NakReason where
  | gap
  | damaged
  deriving DecidableEq, Repr

/-- The kind of fault an apply entry meets, carried by a REPORT (R96, R143). -/
inductive ApplyFault where
  | range
  | apply
  deriving DecidableEq, Repr

/-- The fields of a REPORT frame (R96). -/
structure Report where
  epoch  : Epoch
  seq    : Seq
  kind   : ApplyFault
  target : Line
  deriving DecidableEq, Repr

/-- The commands of the block. Each constructor is the row of the table whose mnemonic LAWS.json gives. The service
commands carry the echo byte and the argument bytes of their message (R167, R170), so that a wrong argument length
reaches the command's own check (R168). -/
inductive Instr where
  /-- HOST_REQUEST (R43): a request presented at the host port. -/
  | hostRequest (r : HostRequest)
  /-- HOST_PORT_RESET (R61): the host port reset line is asserted. -/
  | hostPortReset
  /-- COLD_RESET (R182, R184): the cold reset pin is asserted or released. -/
  | coldReset (edge : ColdPinEdge)
  /-- PORT_GRANT (R70). -/
  | portGrant
  /-- MEMORY_COMPLETION (R65). -/
  | memoryCompletion (c : Completion)
  /-- APPLY_HEAD_EXAMINE (R140). -/
  | applyHeadExamine
  /-- DRAIN_END (R161). -/
  | drainEnd
  /-- STALL_EXPIRY (R33). -/
  | stallExpiry
  /-- HOLD_EXPIRY (R54) of the held record of `tag`. -/
  | holdExpiry (tag : Tag)
  /-- ACK_TIMER_EXPIRY (R120). -/
  | ackTimerExpiry
  /-- PROBE_IDLE_EXPIRY (R119). -/
  | probeIdleExpiry
  /-- SILENCE_EXPIRY (R109). -/
  | silenceExpiry
  /-- HELLO_REPEAT (R103). -/
  | helloRepeat
  /-- LANE_SIGNAL_CHANGE (R95): the detector's verdict becomes `signal`. -/
  | laneSignalChange (signal : LaneSignal)
  /-- DAMAGED_FRAME (R99): the bytes of a received frame that failed the check. -/
  | damagedFrame (bytes : List Byte)
  /-- RECEIVE_HELLO (R104 to R106). -/
  | receiveHello (h : Hello)
  /-- RECEIVE_DATA_FRAME (R134). -/
  | receiveDataFrame (f : DataFrame)
  /-- RECEIVE_PROBE (R136). -/
  | receiveProbe (epoch : Epoch)
  /-- RECEIVE_ACK (R125). -/
  | receiveAck (epoch : Epoch) (lastApplied : Seq) (faults : Seq)
  /-- RECEIVE_NAK (R121). -/
  | receiveNak (epoch : Epoch) (expected : Seq) (reason : NakReason)
  /-- RECEIVE_REPORT (R129). -/
  | receiveReport (r : Report)
  /-- FRAME_END (R94). -/
  | frameEnd
  /-- TEST_FRAME_RETURN (R114): the bytes the internal loop returns. -/
  | testFrameReturn (bytes : List Byte)
  /-- BAD_MESSAGE (R168): the bytes of a message that failed the whole-message check. -/
  | badMessage (bytes : List Byte)
  /-- UNKNOWN_COMMAND (R168). -/
  | unknownCommand (echo code : Byte) (args : List Byte)
  /-- GET_STATUS (R171). -/
  | getStatus (echo : Byte) (args : List Byte)
  /-- SET_WINDOW (R4). -/
  | setWindow (echo : Byte) (args : List Byte)
  /-- GET_WINDOW (R8). -/
  | getWindow (echo : Byte) (args : List Byte)
  /-- ENABLE_WINDOW (R5, R6). -/
  | enableWindow (echo : Byte) (args : List Byte)
  /-- DISABLE_WINDOW (R7). -/
  | disableWindow (echo : Byte) (args : List Byte)
  /-- START_SWEEP (R81, R82). -/
  | startSweep (echo : Byte) (args : List Byte)
  /-- PAUSE_WINDOW (R14). -/
  | pauseWindow (echo : Byte) (args : List Byte)
  /-- ASSUME_SOURCE (R154). -/
  | assumeSource (echo : Byte) (args : List Byte)
  /-- ASSUME_SINK (R154). -/
  | assumeSink (echo : Byte) (args : List Byte)
  /-- ISOLATE (R154). -/
  | isolate (echo : Byte) (args : List Byte)
  /-- SET_TIMERS (R173). -/
  | setTimers (echo : Byte) (args : List Byte)
  /-- SET_MASK (R176). -/
  | setMask (echo : Byte) (args : List Byte)
  /-- READ_EVENTS (R175). -/
  | readEvents (echo : Byte) (args : List Byte)
  /-- READ_FAULT (R178). -/
  | readFault (echo : Byte) (args : List Byte)
  /-- GET_MARKS (R180). -/
  | getMarks (echo : Byte) (args : List Byte)
  /-- SET_OVERRIDE (R180). -/
  | setOverride (echo : Byte) (args : List Byte)
  /-- GET_STATS (R179). -/
  | getStats (echo : Byte) (args : List Byte)
  /-- LINK_TEST (R113). -/
  | linkTest (echo : Byte) (args : List Byte)
  /-- RESTART (R181). -/
  | restart (echo : Byte) (args : List Byte)
  /-- HOST_PORT_RESET_RELEASE (R61). -/
  | hostPortResetRelease
  /-- RECEIVE_TEST_FRAME (R100). -/
  | receiveTestFrame (pattern : BitVec 16) (payload : LineData)
  deriving DecidableEq, Repr

end Sys2Proof
end

