-- ==== Sys2Proof/Machine/State.lean ====
section
/-! DEFINITION. The state of the block, grouped by the blocks of the manual (00, Block overview), the reasons a step can
stop, and the state after cold reset. Plain data throughout. -/

namespace Sys2Proof.Machine

/-! ### Stops -/

/-- No step of the block ends in a fault: what the manual calls a fault is a record in the fault list (R177). So the
type has no constructor, which is safe: nothing is hidden behind a stop. -/
inductive Fault where
  deriving DecidableEq, Repr

/-- The reasons a command is refused. -/
inductive Refusal where
  /-- Raised by an arm of `exec` whose command has no meaning yet. Safe: the machine stops. No arm raises it now. -/
  | notModelled (mnemonic : String)
  deriving DecidableEq, Repr

/-! ### Host Port -/

/-- What a queued host request asks for. Parity is checked at acceptance, so a queued write carries only the verdict:
`poisoned` when it is parity-poisoned (R48). -/
inductive QueuedOp where
  | read
  | write (mask : Mask) (data : LineData) (poisoned : Bool)
  deriving DecidableEq, Repr

/-- A request of the host request queue (R43). -/
structure QueuedRequest where
  tag  : Tag
  line : Line
  op   : QueuedOp
  deriving DecidableEq, Repr

/-- A record of the held-write table (R51, R52). -/
structure HeldRecord where
  tag   : Tag
  seq   : Seq
  start : Time
  deriving DecidableEq, Repr

/-- The statuses of a host response (R44). -/
inductive HostStatus where
  | okay | poisoned | memoryError | fenced | unmirrored
  deriving DecidableEq, Repr

/-- The data of a read response: 64 bytes with one odd parity bit each (03, section 3.1). -/
structure ReadData where
  bytes  : LineData
  parity : BitVec 64
  deriving DecidableEq, Repr

/-- A host response (03, section 3.1). -/
structure HostResponse where
  tag    : Tag
  status : HostStatus
  data   : Option ReadData
  deriving DecidableEq, Repr

/-- The Host Port's record. `responses` is the model's own: every response given so far, oldest first
(assumption log 7). `tags` is kept in rising order. -/
structure HostPort where
  queue     : List QueuedRequest
  held      : List HeldRecord
  tags      : List Tag
  resetLine : Bool
  responses : List HostResponse
  deriving DecidableEq, Repr

/-! ### Window Table -/

/-- The kind of a window (R1). -/
inductive WindowKind where
  | mirror | marker
  deriving DecidableEq, Repr

/-- The commit class of a window (R1). -/
inductive CommitClass where
  | posted | held
  deriving DecidableEq, Repr

/-- The states of a window (01, section 1.4). -/
inductive WindowState where
  | off | suspended | sweeping | mirroring
  deriving DecidableEq, Repr

/-- The suspend causes (01, section 1.4). -/
inductive SuspendCause where
  | enabled | link | overflow | partner | missingReport | paused | role | restart
  deriving DecidableEq, Repr

/-- A window record (R1). The enabled field is not stored: a window is enabled exactly while its state is other than
OFF. The dirty count is derived. -/
structure Window where
  localBase  : Nat
  size       : Nat
  remoteBase : Nat
  kind       : WindowKind
  cls        : CommitClass
  state      : WindowState
  cause      : SuspendCause
  deriving DecidableEq, Repr

/-- A window record after cold reset (R1). -/
def Window.reset : Window where
  localBase := 0
  size := 0
  remoteBase := 0
  kind := .mirror
  cls := .posted
  state := .off
  cause := .enabled

/-! ### Update Journal -/

/-- A journal entry (R20). `sent` is the state field: true for SENT, false for WAITING. -/
structure JournalEntry where
  seq       : Seq
  kind      : EntryKind
  window    : WinIdx
  localLine : Line
  target    : Line
  mask      : Mask
  data      : LineData
  poison    : Bool
  heldTags  : List Tag
  sent      : Bool
  reported  : Bool
  everSent  : Bool
  isOpen    : Bool
  deriving DecidableEq, Repr

/-- The Update Journal's record (R19, R21, R33). The send cursor is derived (R23). -/
structure Journal where
  entries    : List JournalEntry
  nextSeq    : Seq
  stallStart : Option Time
  deriving DecidableEq, Repr

/-! ### Apply queue -/

/-- An entry of the apply queue (R138). -/
structure ApplyEntry where
  epoch  : Epoch
  seq    : Seq
  kind   : EntryKind
  window : WinIdx
  target : Line
  mask   : Mask
  data   : LineData
  poison : Bool
  deriving DecidableEq, Repr

/-! ### Memory Port and Port Arbiter -/

/-- The kind of an operation, with the fields of a WRITE (R63). -/
inductive Access where
  | read
  | write (mask : Mask) (data : LineData) (poison : Bool)
  deriving DecidableEq, Repr

/-- What a host operation was granted as, which its completion follows (R50, R74). A captured write keeps the commit
class of its window at the grant and the sequence of the entry that carries it (R28, R29). -/
inductive HostGrant where
  | read
  | pass
  | track
  | capture (cls : CommitClass) (seq : Seq)
  deriving DecidableEq, Repr

/-- The owner of an operation (R63). The host tag is `none` once dropped by a host port reset. `discarded` is set by a
warm reset taken while the operation is on the port (R75). An apply operation keeps the owning window of its target at
the grant (R143). -/
inductive Owner where
  | host (tag : Option Tag) (grant : HostGrant)
  | sweep (window : WinIdx) (discarded : Bool)
  | apply (entry : ApplyEntry) (window : Option WinIdx) (discarded : Bool)
  deriving DecidableEq, Repr

/-- The operation record (R63). -/
structure Operation where
  line   : Line
  access : Access
  owner  : Owner
  deriving DecidableEq, Repr

/-- The memory port and its arbiter (R64, R71). -/
structure MemoryPort where
  op         : Option Operation
  passedOver : Nat
  deriving DecidableEq, Repr

/-! ### Sweep Engine -/

/-- The sweep position (R83). -/
structure SweepPosition where
  window   : WinIdx
  granule  : Nat
  nextLine : BitVec 10
  deriving DecidableEq, Repr

/-- The sweep read in flight (R83). -/
structure SweepRead where
  window  : WinIdx
  granule : Nat
  line    : BitVec 10
  current : Bool
  deriving DecidableEq, Repr

/-- The Sweep Engine's two records (R83). -/
structure SweepEngine where
  position : Option SweepPosition
  inFlight : Option SweepRead
  deriving DecidableEq, Repr

/-! ### Link Controller -/

/-- The link states (06, section 6.3). -/
inductive LinkState where
  | down | hail | up | clash
  deriving DecidableEq, Repr

/-- A frame of the cross link as its fields (R96). -/
inductive Frame where
  | hello (h : Hello)
  | data (f : DataFrame)
  | probe (epoch : Epoch)
  | ack (epoch : Epoch) (lastApplied : Seq) (faults : Seq)
  | nak (epoch : Epoch) (expected : Seq) (reason : NakReason)
  | report (r : Report)
  | test (pattern : BitVec 16) (payload : LineData)
  deriving DecidableEq, Repr

/-- The outcome field of the test record (R113). -/
inductive TestOutcome where
  | noOutcome | complete | aborted
  deriving DecidableEq, Repr

/-- The test record (R113) and the pattern number of the TEST frame that is in the internal loop (R114). -/
structure TestRecord where
  running   : Bool
  requested : BitVec 16
  sent      : BitVec 16
  good      : BitVec 16
  damaged   : BitVec 16
  outcome   : TestOutcome
  inLoop    : Option (BitVec 16)
  deriving DecidableEq, Repr

/-- The test record after cold reset (R113). -/
def TestRecord.reset : TestRecord where
  running := false
  requested := 0
  sent := 0
  good := 0
  damaged := 0
  outcome := .noOutcome
  inLoop := none

/-- The Link Controller's record (06, section 6.3), the frame in transmission on the outbound lane (R94), and whether
the time for a HELLO has come since the last one (R103). -/
structure Link where
  state       : LinkState
  epoch       : Epoch
  signal      : LaneSignal
  lastReceipt : Option Time
  lastHello   : Option Time
  helloDue    : Bool
  lane        : Option Frame
  test        : TestRecord
  deriving DecidableEq, Repr

/-- What the outbound lane carries: nothing while it is undriven, and between frames the idle fill (R94, R184). -/
inductive LaneOutput where
  | undriven
  | idleFill
  | frame (f : Frame)
  deriving DecidableEq, Repr

/-! ### Transmit Sequencer, Receive Checker and sink transmitter -/

/-- A mark record: the confirmed-mark record (R127), or the applied-mark record, whose `reported` stays no (R145). -/
structure MarkRecord where
  valid     : Bool
  window    : WinIdx
  target    : Line
  wordIndex : Fin 8
  word      : Vector Byte 8
  seq       : Seq
  epoch     : Epoch
  reported  : Bool
  deriving DecidableEq, Repr

/-- A mark record after reset: invalid, every other field 0 (R127, R145). -/
def MarkRecord.reset : MarkRecord where
  valid := false
  window := 0
  target := 0
  wordIndex := 0
  word := Vector.replicate 8 0
  seq := 0
  epoch := 0
  reported := false

/-- The transmit sequencer's record (R116); its statistic stands with the others in `Stats`. -/
structure Sequencer where
  ackStart      : Option Time
  lastSend      : Option Time
  rounds        : Nat
  processed     : BitVec 16
  confirmedMark : MarkRecord
  deriving DecidableEq, Repr

/-- The receive checker (R133), the apply queue (R138), the report queue (R144), the applied-mark record (R145) and the
HELLO reply owed after adoption (R105, R147). -/
structure Receiver where
  expected       : Seq
  lastApplied    : Seq
  applyFaults    : BitVec 16
  nakOutstanding : Bool
  nakSlot        : Option NakReason
  ackPending     : Bool
  replyOwed      : Bool
  applyQueue     : List ApplyEntry
  reportQueue    : List Report
  appliedMark    : MarkRecord
  deriving DecidableEq, Repr

/-! ### Role Controller -/

/-- The roles (R153). -/
inductive Role where
  | isolated | source | sink | draining
  deriving DecidableEq, Repr

/-! ### Service Port, Event Unit and Fault List -/

/-- The event causes (R174). -/
inductive EventCause where
  | linkUp | linkDown | clash | windowSuspended | sweepDone | stallOverflow | holdExpired
  | markConfirmed | markApplied | applyFault | partnerFault | roleDone | testDone | faultLogged
  deriving DecidableEq, Repr

/-- The fault kinds (R177). -/
inductive FaultKind where
  | hostTag | poisonWrite | memoryError | overflow | rounds | bogusAck | clash | range | apply
  | partnerReport | missingReport
  deriving DecidableEq, Repr

/-- A fault record (R177): the kind, the time at the offer, and the optional fields. -/
structure FaultRecord where
  kind   : FaultKind
  time   : Time
  window : Option WinIdx
  line   : Option Line
  seq    : Option Seq
  epoch  : Option Epoch
  deriving DecidableEq, Repr

/-- The six statistics, in the order of the results (R179). -/
structure Stats where
  damagedFrames       : BitVec 32
  rewinds             : BitVec 32
  overflowSuspensions : BitVec 32
  holdExpiries        : BitVec 32
  entriesAcked        : BitVec 32
  entriesApplied      : BitVec 32
  deriving DecidableEq, Repr

/-- The five timing settings, in microseconds, and the round limit (R173). -/
structure Timers where
  tAck       : Nat
  tProbe     : Nat
  tQuiet     : Nat
  tStall     : Nat
  tHeld      : Nat
  roundLimit : Nat
  deriving DecidableEq, Repr

/-- The settings after cold reset (00, timing table; R173). -/
def Timers.reset : Timers where
  tAck := 50
  tProbe := 200
  tQuiet := 1000
  tStall := 20
  tHeld := 500
  roundLimit := 1

/-- The statuses of a service response (R167). -/
inductive ServiceStatus where
  | done | accepted | busy | refused | unknown | badMessage
  deriving DecidableEq, Repr

/-- The refusal reasons of a service response (R167). -/
inductive Reason where
  | noReason | value | bounds | overlap | limit | state | role | link | pending | order | empty
  deriving DecidableEq, Repr

/-- A service response message as its fields (R167); `ServiceResponse.bytes` of Machine/Message.lean gives its bytes. -/
structure ServiceResponse where
  echo    : Byte
  code    : Byte
  status  : ServiceStatus
  reason  : Reason
  results : List Byte
  deriving DecidableEq, Repr

/-- The service port, event unit and fault list. `events` and `mask` hold one bit for each cause (R174). -/
structure Service where
  events   : BitVec 14
  mask     : BitVec 14
  faults   : List FaultRecord
  overrun  : Bool
  stats    : Stats
  override : Bool
  timers   : Timers
  response : Option ServiceResponse
  deriving DecidableEq, Repr

/-! ### The whole block -/

/-- The state of the block. `dirty` is kept in strictly rising order, so that equal sets are equal lists. `coldPin` is true
while the cold reset pin is asserted (R184). `pending` and `freeCount` are the model's own. -/
structure State where
  host      : HostPort
  windows   : Vector Window 16
  port      : MemoryPort
  journal   : Journal
  dirty     : List Nat
  sweep     : SweepEngine
  link      : Link
  seq       : Sequencer
  rx        : Receiver
  role      : Role
  service   : Service
  time      : Time
  pending   : List Instr
  freeCount : Nat
  coldPin   : Bool
  deriving DecidableEq, Repr

/-- The state after cold reset, with the pin released. The lane signal state and the level of the host port reset line are
inputs: the values here are the model's choice (assumption log 6 and 8). -/
def State.reset : State where
  host := { queue := [], held := [], tags := [], resetLine := false, responses := [] }
  windows := Vector.replicate 16 Window.reset
  port := { op := none, passedOver := 0 }
  journal := { entries := [], nextSeq := 0, stallStart := none }
  dirty := []
  sweep := { position := none, inFlight := none }
  link :=
    { state := .down, epoch := 0, signal := .absent, lastReceipt := none, lastHello := none
      helloDue := false, lane := none, test := TestRecord.reset }
  seq :=
    { ackStart := none, lastSend := none, rounds := 0, processed := 0
      confirmedMark := MarkRecord.reset }
  rx :=
    { expected := 0, lastApplied := 65535, applyFaults := 0, nakOutstanding := false, nakSlot := none
      ackPending := false, replyOwed := false, applyQueue := [], reportQueue := []
      appliedMark := MarkRecord.reset }
  role := .isolated
  service :=
    { events := 0, mask := BitVec.allOnes 14, faults := [], overrun := false
      stats :=
        { damagedFrames := 0, rewinds := 0, overflowSuspensions := 0, holdExpiries := 0
          entriesAcked := 0, entriesApplied := 0 }
      override := false, timers := Timers.reset, response := none }
  time := 0
  pending := []
  freeCount := 0
  coldPin := false

/-! ### One update for each field: the operations of the machine are written with these. -/

/-- `s` with its Host Port replaced. -/
def State.withHost (s : State) (x : HostPort) : State := { s with host := x }
/-- `s` with its Window Table replaced. -/
def State.withWindows (s : State) (x : Vector Window 16) : State := { s with windows := x }
/-- `s` with its Memory Port replaced. -/
def State.withPort (s : State) (x : MemoryPort) : State := { s with port := x }
/-- `s` with its Update Journal replaced. -/
def State.withJournal (s : State) (x : Journal) : State := { s with journal := x }
/-- `s` with its Dirty Set replaced. -/
def State.withDirty (s : State) (x : List Nat) : State := { s with dirty := x }
/-- `s` with its Sweep Engine replaced. -/
def State.withSweep (s : State) (x : SweepEngine) : State := { s with sweep := x }
/-- `s` with its Link Controller replaced. -/
def State.withLink (s : State) (x : Link) : State := { s with link := x }
/-- `s` with its Transmit Sequencer replaced. -/
def State.withSeq (s : State) (x : Sequencer) : State := { s with seq := x }
/-- `s` with its Receive Checker and queues replaced. -/
def State.withRx (s : State) (x : Receiver) : State := { s with rx := x }
/-- `s` with its role replaced. -/
def State.withRole (s : State) (x : Role) : State := { s with role := x }
/-- `s` with its Service Port replaced. -/
def State.withService (s : State) (x : Service) : State := { s with service := x }
/-- `s` with its time counter replaced. -/
def State.withTime (s : State) (x : Time) : State := { s with time := x }
/-- `s` with its queue of commands replaced. -/
def State.withPending (s : State) (x : List Instr) : State := { s with pending := x }
/-- `s` with its count of open choices replaced. -/
def State.withFreeCount (s : State) (x : Nat) : State := { s with freeCount := x }
/-- `s` with the level of its cold reset pin replaced. -/
def State.withColdPin (s : State) (x : Bool) : State := { s with coldPin := x }

end Sys2Proof.Machine
end

