-- ==== Sys2Proof/Machine/Operands.lean ====
section
/-! DEFINITION. Every operand form of the block: line and granule arithmetic, sequence, epoch and time arithmetic, byte
parity, byte masks, big-endian fields, the arguments of the service commands, and the ordered lists that hold sets. -/

namespace Sys2Proof

/-! ### Big-endian fields -/

/-- The `n` bytes of `v`, most significant first (R98, R167). -/
def beBytes : Nat → Nat → List Byte
  | 0, _ => []
  | n + 1, v => beBytes n (v / 256) ++ [BitVec.ofNat 8 v]

/-- The number whose bytes these are, most significant first (R98, R167). -/
def beNat (l : List Byte) : Nat := l.foldl (fun acc b => acc * 256 + b.toNat) 0

/-- `f n`, with `n` evaluated to a numeral first: it changes nothing but how fast a closed term is evaluated. -/
def evalNat {α : Type} (n : Nat) (f : Nat → α) : α :=
  match n with
  | 0 => f 0
  | m + 1 => f (m + 1)

/-! ### Lines and granules -/

/-- The 40-bit line address (03, section 3.1). -/
def Line.address (l : Line) : BitVec 40 := BitVec.ofNat 40 (l.toNat * 64)

/-- The granule of a line: its byte address divided by 65536 (01, introduction). -/
def Line.granule (l : Line) : Nat := l.toNat / Config.linesPerGranule

/-- Line `offset` of granule `g`. -/
def lineOf (g : Nat) (offset : BitVec 10) : Line :=
  BitVec.ofNat 34 (g * Config.linesPerGranule + offset.toNat)

namespace Machine

/-- A window is enabled exactly while its state is other than OFF (R1). -/
def Window.enabled (w : Window) : Bool := w.state != .off

/-- SWEEPING or MIRRORING (01, section 1.4). -/
def Window.capturing (w : Window) : Bool := w.state == .sweeping || w.state == .mirroring

/-- `g` belongs to the window's local range (R2). -/
def Window.localHas (w : Window) (g : Nat) : Bool := w.localBase ≤ g && g < w.localBase + w.size

/-- `g` belongs to the window's remote range (R2). -/
def Window.remoteHas (w : Window) (g : Nat) : Bool := w.remoteBase ≤ g && g < w.remoteBase + w.size

/-- Translation of a local line to its target line (R3). -/
def Window.translate (w : Window) (l : Line) : Line :=
  l - BitVec.ofNat 34 (w.localBase * Config.linesPerGranule)
    + BitVec.ofNat 34 (w.remoteBase * Config.linesPerGranule)

/-- Reverse translation of a partner line to the local line (R3). -/
def Window.untranslate (w : Window) (t : Line) : Line :=
  t - BitVec.ofNat 34 (w.remoteBase * Config.linesPerGranule)
    + BitVec.ofNat 34 (w.localBase * Config.linesPerGranule)

/-- The two ranges `[a, a + n)` and `[b, b + m)` share a granule (R5). -/
def rangesShare (a n b m : Nat) : Bool := a < b + m && b < a + n && 0 < n && 0 < m

/-! ### Sequence, epoch and time arithmetic -/

/-- `a` is ahead of `b` (00, Sequence arithmetic). -/
def seqAhead (a b : Seq) : Bool := 1 ≤ (a - b).toNat && (a - b).toNat ≤ 32767

/-- `a` is behind `b` (00, Sequence arithmetic). -/
def seqBehind (a b : Seq) : Bool := 32768 ≤ (a - b).toNat

/-- The epoch after `e` (R102). -/
def nextEpoch (e : Epoch) : Epoch := if e = 255 then 1 else e + 1

/-- The time counter less a recorded start, modulo 2^32 (R183). -/
def elapsed (now start : Time) : Nat := (now - start).toNat

/-- The recorded start stands and `limit` microseconds or more have passed since (R183). -/
def reached (now : Time) (start : Option Time) (limit : Nat) : Bool :=
  match start with
  | none => false
  | some t => limit ≤ elapsed now t

/-! ### Byte parity and masks -/

/-- The odd parity bit of a byte: the byte and its bit hold an odd number of ones (03, section 3.1). -/
def oddParity (b : Byte) : Bool :=
  !(b.getLsbD 0 ^^ b.getLsbD 1 ^^ b.getLsbD 2 ^^ b.getLsbD 3 ^^ b.getLsbD 4 ^^ b.getLsbD 5 ^^ b.getLsbD 6 ^^
    b.getLsbD 7)

/-- A write is parity-poisoned when a masked byte's parity is even (R48). -/
def parityPoisoned (mask : Mask) (data : LineData) (parity : BitVec 64) : Bool :=
  (List.finRange 64).any fun i => mask.getLsbD i && parity.getLsbD i != oddParity data[i]

/-- The parity bits the unit generates for the data of a read response (03, section 3.1). -/
def parityOf (data : LineData) : BitVec 64 := BitVec.ofFnLE fun i => oddParity data[i]

/-- The bytes of `new` at the masked positions, the bytes of `old` elsewhere (R26). -/
def mergeData (mask : Mask) (new old : LineData) : LineData :=
  Vector.ofFn fun i => if mask.getLsbD i then new[i] else old[i]

/-- The mask of a SWEEP entry: all 64 bytes (R20). -/
def fullMask : Mask := BitVec.allOnes 64

/-- The lowest `k` for which one of bytes 8k to 8k + 7 is in the mask (R127, R145). An empty mask writes no record. -/
def wordIndexOf (mask : Mask) : Fin 8 :=
  ((List.finRange 8).find? fun k => (List.finRange 8).any fun j => mask.getLsbD (8 * k.val + j.val)).getD 0

/-- The 8 data bytes at positions 8k to 8k + 7, byte 8k first (R127, R145). -/
def wordAt (data : LineData) (k : Fin 8) : Vector Byte 8 :=
  Vector.ofFn fun j => data[8 * k.val + j.val]'(by omega)

/-- The payload of the TEST frame with pattern number `k` (R114). -/
def testPayload (k : BitVec 16) : LineData :=
  Vector.ofFn fun i => BitVec.ofNat 8 ((k.toNat * 64 + i.val) * 173)

/-! ### Sets held as lists in rising order -/

/-- `x` put into a list that rises by `key`; a member stays, once. -/
def insertBy {α : Type} (key : α → Nat) (x : α) : List α → List α
  | [] => [x]
  | y :: l => if key x < key y then x :: y :: l else if key x = key y then y :: l else y :: insertBy key x l

/-- The granules `base` to `base + n - 1` put into a rising list. -/
def insertRange (base n : Nat) (l : List Nat) : List Nat :=
  l.filter (· < base) ++ List.range' base n ++ l.filter (base + n ≤ ·)

/-- The granules `base` to `base + n - 1` taken out of a list. -/
def removeRange (base n : Nat) (l : List Nat) : List Nat :=
  l.filter fun g => g < base || base + n ≤ g

/-- The members of a list from `base` to `base + n - 1`. -/
def countRange (base n : Nat) (l : List Nat) : Nat :=
  (l.filter fun g => base ≤ g && g < base + n).length

/-! ### Open choices -/

/-- The list with its elements in the order that the number `code` spells: every order is spelled by some number, and
a list of at most one element stays as it is. -/
def permute {α : Type} (code : Nat) : List α → List α
  | [] => []
  | [x] => [x]
  | x :: y :: l => (permute (code / (l.length + 2)) (y :: l)).insertIdx (code % (l.length + 2)) x

/-- The element that the number `code` picks from a list; the only element of a list of one. -/
def pick {α : Type} (code : Nat) : List α → Option α
  | [] => none
  | [x] => some x
  | x :: y :: l => (x :: y :: l)[code % (l.length + 2)]?

/-! ### Arguments of the service commands (R170) -/

/-- The field of `n` bytes that begins at byte `at_` of the arguments. -/
def argNat (args : List Byte) (at_ n : Nat) : Nat := beNat ((args.drop at_).take n)

/-- The window that an index byte names, or none above 15 (R4, R5, R7, R8, R14, R81). -/
def windowArg (n : Nat) : Option WinIdx := if h : n < 16 then some ⟨n, h⟩ else none

/-- The arguments of SET_WINDOW (R170). -/
structure SetWindowArgs where
  window     : Nat
  localBase  : Nat
  size       : Nat
  remoteBase : Nat
  kind       : Nat
  cls        : Nat
  deriving DecidableEq, Repr

/-- The fields of SET_WINDOW's fifteen argument bytes (R170). -/
def setWindowArgs (args : List Byte) : SetWindowArgs where
  window := argNat args 0 1
  localBase := argNat args 1 4
  size := argNat args 5 4
  remoteBase := argNat args 9 4
  kind := argNat args 13 1
  cls := argNat args 14 1

/-- The kind that a kind byte names (R170). -/
def windowKindArg : Nat → Option WindowKind
  | 0 => some .mirror
  | 1 => some .marker
  | _ => none

/-- The commit class that a class byte names (R170). -/
def commitClassArg : Nat → Option CommitClass
  | 0 => some .posted
  | 1 => some .held
  | _ => none

/-- A byte that is 0 for no or off, 1 for yes or on, and has no other legal value (R170). -/
def boolArg : Nat → Option Bool
  | 0 => some false
  | 1 => some true
  | _ => none

/-- The fields of SET_TIMERS' twenty-one argument bytes (R170). -/
def timersArgs (args : List Byte) : Timers where
  tAck := argNat args 0 4
  tProbe := argNat args 4 4
  tQuiet := argNat args 8 4
  tStall := argNat args 12 4
  tHeld := argNat args 16 4
  roundLimit := argNat args 20 1

/-- Every value lies in its range of the timing table, and the round limit is at most 7 (R173, check 1). -/
def Timers.inRange (t : Timers) : Bool :=
  2 ≤ t.tAck && t.tAck ≤ 1000 && 10 ≤ t.tProbe && t.tProbe ≤ 10000 && 50 ≤ t.tQuiet && t.tQuiet ≤ 50000 &&
    1 ≤ t.tStall && t.tStall ≤ 1000 && 10 ≤ t.tHeld && t.tHeld ≤ 100000 && t.roundLimit ≤ 7

/-- The ordering check (R173, check 2). -/
def Timers.ordered (t : Timers) : Bool := 2 * t.tProbe + t.tAck ≤ t.tQuiet

/-- The settings as SET_TIMERS returns them (R170, R173). -/
def Timers.bytes (t : Timers) : List Byte :=
  beBytes 4 t.tAck ++ beBytes 4 t.tProbe ++ beBytes 4 t.tQuiet ++ beBytes 4 t.tStall ++ beBytes 4 t.tHeld ++
    beBytes 1 t.roundLimit

end Machine

end Sys2Proof
end

