-- ==== Sys2Proof/Machine/Frame.lean ====
section
/-! DEFINITION. The frames of the cross link as bytes: the kind codes (R97), the layout (R98), the CRC (R98) and the check
that parts good frames from damaged ones (R99). -/

namespace Sys2Proof.Machine

/-! ### The check value (R98) -/

/-- The generator polynomial of R98, without its x^32 term. -/
def crcPoly : BitVec 32 := 0x04C11DB7

/-- The register after one bit enters it (R98). -/
def crcBit (r : BitVec 32) (bit : Bool) : BitVec 32 :=
  if r.msb = bit then r <<< 1 else (r <<< 1) ^^^ crcPoly

/-- The register after the bits enter it in turn. -/
def crcBits : List Bool → BitVec 32 → BitVec 32
  | [], r => r
  | b :: bs, r => evalNat (crcBit r b).toNat fun n => crcBits bs (BitVec.ofNat 32 n)

/-- The bits of a byte, most significant first. -/
def bitsOf (b : Byte) : List Bool :=
  [b.getLsbD 7, b.getLsbD 6, b.getLsbD 5, b.getLsbD 4, b.getLsbD 3, b.getLsbD 2, b.getLsbD 1, b.getLsbD 0]

/-- The register after the bytes enter it in turn. -/
def crcBytes : List Byte → BitVec 32 → BitVec 32
  | [], r => r
  | b :: l, r => evalNat (crcBits (bitsOf b) r).toNat fun n => crcBytes l (BitVec.ofNat 32 n)

/-- The CRC of a string of bytes: the register starts at all ones, and the remainder is inverted (R98). -/
def crc (l : List Byte) : BitVec 32 := ~~~crcBytes l (BitVec.allOnes 32)

/-! ### Kinds (R97) -/

/-- The nine frame kinds (R96). -/
inductive FrameKind where
  | hello | update | sweep | mark | probe | ack | nak | report | test
  deriving DecidableEq, Repr

/-- The five-bit kind code (R97). -/
def FrameKind.code : FrameKind → Nat
  | .hello => 0b00011
  | .update => 0b00101
  | .sweep => 0b00110
  | .mark => 0b01001
  | .probe => 0b01010
  | .ack => 0b01100
  | .nak => 0b10001
  | .report => 0b10010
  | .test => 0b10100

/-- The kind that a code stands for, or none for an invalid code: a weight other than two, or 11000 (R97). -/
def FrameKind.ofCode : Nat → Option FrameKind
  | 0b00011 => some .hello
  | 0b00101 => some .update
  | 0b00110 => some .sweep
  | 0b01001 => some .mark
  | 0b01010 => some .probe
  | 0b01100 => some .ack
  | 0b10001 => some .nak
  | 0b10010 => some .report
  | 0b10100 => some .test
  | _ => none

/-- The length of a frame of the kind, and for HELLO of the sender role in its qualifier (R98, R99). -/
def FrameKind.length (k : FrameKind) (qualifier : Bool) : Nat :=
  match k with
  | .hello => if qualifier then 6 else 8
  | .update => 86
  | .sweep => 78
  | .mark => 86
  | .probe => 6
  | .ack => 10
  | .nak => 8
  | .report => 13
  | .test => 71

/-- The header byte: the kind code in the five most significant bits, two bits of 0, the qualifier (R98). -/
def headerByte (k : FrameKind) (qualifier : Bool) : Byte :=
  BitVec.ofNat 8 (k.code * 8 + (if qualifier then 1 else 0))

/-! ### Fields -/

/-- The mask as the 64-bit number sent: byte position 0 is the most significant bit of the first byte (R98). -/
def maskToWire (m : Mask) : BitVec 64 := BitVec.ofFnLE fun i : Fin 64 => m.getLsbD (63 - i.val)

/-- The kind of frame that carries an entry of the kind (R96). -/
def frameKindOf : EntryKind → FrameKind
  | .update => .update
  | .sweep => .sweep
  | .mark => .mark

/-- The bytes of a frame before its CRC (R98). -/
def Frame.body : Frame → List Byte
  | .hello (.source e b) => [headerByte .hello false, e] ++ beBytes 2 b.toNat
  | .hello (.sink e) => [headerByte .hello true, e]
  | .data f =>
    [headerByte (frameKindOf f.kind) f.poison, f.epoch] ++ beBytes 2 f.seq.toNat ++ beBytes 1 f.window.val ++
      beBytes 5 f.target.address.toNat ++
      (if f.kind = .sweep then [] else beBytes 8 (maskToWire f.mask).toNat) ++ f.data.toList
  | .probe e => [headerByte .probe false, e]
  | .ack e s c => [headerByte .ack false, e] ++ beBytes 2 s.toNat ++ beBytes 2 c.toNat
  | .nak e s r => [headerByte .nak (r = .damaged), e] ++ beBytes 2 s.toNat
  | .report r =>
    [headerByte .report (r.kind = .apply), r.epoch] ++ beBytes 2 r.seq.toNat ++ beBytes 5 r.target.address.toNat
  | .test p d => [headerByte .test false] ++ beBytes 2 p.toNat ++ d.toList

/-- The bytes of a frame (R98). -/
def Frame.toBytes (f : Frame) : List Byte := f.body ++ beBytes 4 (crc f.body).toNat

/-- The number in the `n` bytes from byte `at_`. -/
def fieldAt (l : List Byte) (at_ n : Nat) : Nat := beNat ((l.drop at_).take n)

/-- The 64 data or payload bytes from byte `at_`. -/
def dataAt (l : List Byte) (at_ : Nat) : LineData := Vector.ofFn fun i => l.getD (at_ + i.val) 0

/-- The line of a target-line field: its six least significant bits are not examined (R98). -/
def lineAt (l : List Byte) (at_ : Nat) : Line := BitVec.ofNat 34 (fieldAt l at_ 5 / 64)

/-- The fields of a data frame whose layout starts its data at byte `dataPos` (R98). -/
def dataFrameAt (kind : EntryKind) (qualifier : Bool) (mask : Mask) (dataPos : Nat) (l : List Byte) : DataFrame where
  kind := kind
  epoch := BitVec.ofNat 8 (fieldAt l 1 1)
  seq := BitVec.ofNat 16 (fieldAt l 2 2)
  window := Fin.ofNat 16 (fieldAt l 4 1)
  target := lineAt l 5
  mask := mask
  poison := qualifier
  data := dataAt l dataPos

/-- The fields of a frame of the kind and qualifier (R98). The two bits between code and qualifier, the upper bits of
the window byte and the qualifier of PROBE, ACK and TEST are not examined. -/
def FrameKind.fields (k : FrameKind) (qualifier : Bool) (l : List Byte) : Frame :=
  match k with
  | .hello =>
    if qualifier then .hello (.sink (BitVec.ofNat 8 (fieldAt l 1 1)))
    else .hello (.source (BitVec.ofNat 8 (fieldAt l 1 1)) (BitVec.ofNat 16 (fieldAt l 2 2)))
  | .update => .data (dataFrameAt .update qualifier (maskToWire (BitVec.ofNat 64 (fieldAt l 10 8))) 18 l)
  | .sweep => .data (dataFrameAt .sweep qualifier fullMask 10 l)
  | .mark => .data (dataFrameAt .mark qualifier (maskToWire (BitVec.ofNat 64 (fieldAt l 10 8))) 18 l)
  | .probe => .probe (BitVec.ofNat 8 (fieldAt l 1 1))
  | .ack => .ack (BitVec.ofNat 8 (fieldAt l 1 1)) (BitVec.ofNat 16 (fieldAt l 2 2)) (BitVec.ofNat 16 (fieldAt l 4 2))
  | .nak =>
    .nak (BitVec.ofNat 8 (fieldAt l 1 1)) (BitVec.ofNat 16 (fieldAt l 2 2)) (if qualifier then .damaged else .gap)
  | .report =>
    .report
      { epoch := BitVec.ofNat 8 (fieldAt l 1 1)
        seq := BitVec.ofNat 16 (fieldAt l 2 2)
        kind := if qualifier then .apply else .range
        target := lineAt l 4 }
  | .test => .test (BitVec.ofNat 16 (fieldAt l 1 2)) (dataAt l 3)

/-- The CRC that the last four bytes carry is the one computed over the bytes before them (R99). -/
def crcGood (l : List Byte) : Bool :=
  crc (l.take (l.length - 4)) == BitVec.ofNat 32 (beNat (l.drop (l.length - 4)))

/-- The check of R99: the fields of a good frame, or none for a damaged one. -/
def Frame.ofBytes : List Byte → Option Frame
  | [] => none
  | h :: rest =>
    match FrameKind.ofCode (h.toNat / 8) with
    | none => none
    | some k =>
      if (h :: rest).length = k.length (h.getLsbD 0) && crcGood (h :: rest) then
        some (k.fields (h.getLsbD 0) (h :: rest))
      else none

/-- The frame is damaged (R99). -/
def frameDamaged (l : List Byte) : Bool := (Frame.ofBytes l).isNone

end Sys2Proof.Machine
end

