-- ==== Sys2Proof/Machine/Message.lean ====
section
/-! DEFINITION. The messages of the service port as bytes: the whole-message check (R168), the command codes and argument
lengths (R170), and the response message (R167). -/

namespace Sys2Proof.Machine

/-- The sum of the bytes of a message, modulo 256 (R167). -/
def byteSum (l : List Byte) : Byte := l.foldl (· + ·) 0

/-- A bad message: shorter than 4 bytes, of a length other than 4 + L, or of a sum other than 0 (R168). -/
def badMessageBytes (l : List Byte) : Bool :=
  l.length < 4 || l.length != 4 + (l.getD 2 0).toNat || byteSum l != 0

/-- The message with this command code, echo and arguments (R167). -/
def messageBytes (code echo : Byte) (args : List Byte) : List Byte :=
  let front := [code, echo, BitVec.ofNat 8 args.length] ++ args
  front ++ [0 - byteSum front]

/-- The assigned command codes (R170). -/
def commandAssigned (code : Byte) : Bool := 1 ≤ code.toNat && code.toNat ≤ 19

/-- The argument length of an assigned command (R170). -/
def argumentLength : Nat → Nat
  | 2 => 15
  | 3 => 1
  | 4 => 1
  | 5 => 1
  | 6 => 2
  | 7 => 1
  | 9 => 1
  | 11 => 21
  | 12 => 2
  | 16 => 1
  | 18 => 2
  | _ => 0

/-- The code of a service status (R167). -/
def ServiceStatus.code : ServiceStatus → Byte
  | .done => 0
  | .accepted => 1
  | .busy => 2
  | .refused => 3
  | .unknown => 4
  | .badMessage => 5

/-- The code of a refusal reason (R167). -/
def Reason.code : Reason → Byte
  | .noReason => 0
  | .value => 1
  | .bounds => 2
  | .overlap => 3
  | .limit => 4
  | .state => 5
  | .role => 6
  | .link => 7
  | .pending => 8
  | .order => 9
  | .empty => 10

/-- The bytes of a response message (R167). -/
def ServiceResponse.bytes (r : ServiceResponse) : List Byte :=
  let front := [r.echo, r.code, r.status.code, r.reason.code, BitVec.ofNat 8 r.results.length] ++ r.results
  front ++ [0 - byteSum front]

end Sys2Proof.Machine
end

