-- ==== Sys2Proof/WellFormed.lean ====
section
/-! DEFINITION. Which terms of `Instr` are commands the surroundings can give: what the operand types do not say already. -/

namespace Sys2Proof

/-- The arguments of a service message fit its one-byte length field (R167). -/
def argsFit (args : List Byte) : Bool := args.length ≤ 255

/-- A command that can be given to the unit. A DAMAGED_FRAME fails the frame check (R99); a BAD_MESSAGE fails the
message check (R168); an UNKNOWN_COMMAND has an unassigned code (R168); a SWEEP frame means all 64 bytes (R96). -/
def Instr.wellFormed : Instr → Bool
  | .hostRequest _ => true
  | .hostPortReset => true
  | .coldReset _ => true
  | .portGrant => true
  | .memoryCompletion _ => true
  | .applyHeadExamine => true
  | .drainEnd => true
  | .stallExpiry => true
  | .holdExpiry _ => true
  | .ackTimerExpiry => true
  | .probeIdleExpiry => true
  | .silenceExpiry => true
  | .helloRepeat => true
  | .laneSignalChange _ => true
  | .damagedFrame bytes => Machine.frameDamaged bytes
  | .receiveHello _ => true
  | .receiveDataFrame f => f.kind != .sweep || f.mask == Machine.fullMask
  | .receiveProbe _ => true
  | .receiveAck _ _ _ => true
  | .receiveNak _ _ _ => true
  | .receiveReport _ => true
  | .frameEnd => true
  | .testFrameReturn _ => true
  | .badMessage bytes => Machine.badMessageBytes bytes
  | .unknownCommand _ code args => !Machine.commandAssigned code && argsFit args
  | .getStatus _ args => argsFit args
  | .setWindow _ args => argsFit args
  | .getWindow _ args => argsFit args
  | .enableWindow _ args => argsFit args
  | .disableWindow _ args => argsFit args
  | .startSweep _ args => argsFit args
  | .pauseWindow _ args => argsFit args
  | .assumeSource _ args => argsFit args
  | .assumeSink _ args => argsFit args
  | .isolate _ args => argsFit args
  | .setTimers _ args => argsFit args
  | .setMask _ args => argsFit args
  | .readEvents _ args => argsFit args
  | .readFault _ args => argsFit args
  | .getMarks _ args => argsFit args
  | .setOverride _ args => argsFit args
  | .getStats _ args => argsFit args
  | .linkTest _ args => argsFit args
  | .restart _ args => argsFit args
  | .hostPortResetRelease => true
  | .receiveTestFrame _ _ => true

end Sys2Proof
end

