-- ==== Sys2Proof/Decode.lean ====
section
/-! DEFINITION. From bits to commands. No row of spec/opcode_table.json has bits, so `decodeTableWord` answers none. The
bits the spec does give are those of frames and service messages: `frameCommand` and `messageCommand` say which command
a received string of bytes is. -/

namespace Sys2Proof

/-- The command a word spells by the table's bits: none, since no row of the table gives bits. -/
def decodeTableWord (_nbits _w : Nat) : Option Instr := none

/-- The command that a frame delivered by the inbound lane is (R99, R100). -/
def frameCommand (bytes : List Byte) : Instr :=
  match Machine.Frame.ofBytes bytes with
  | none => .damagedFrame bytes
  | some (.hello h) => .receiveHello h
  | some (.data f) => .receiveDataFrame f
  | some (.probe e) => .receiveProbe e
  | some (.ack e s c) => .receiveAck e s c
  | some (.nak e s r) => .receiveNak e s r
  | some (.report r) => .receiveReport r
  | some (.test p d) => .receiveTestFrame p d

/-- The command with an assigned code (R170), and UNKNOWN_COMMAND for every other code (R168). -/
def codeCommand (code echo : Byte) (args : List Byte) : Instr :=
  match code.toNat with
  | 1 => .getStatus echo args
  | 2 => .setWindow echo args
  | 3 => .getWindow echo args
  | 4 => .enableWindow echo args
  | 5 => .disableWindow echo args
  | 6 => .startSweep echo args
  | 7 => .pauseWindow echo args
  | 8 => .assumeSource echo args
  | 9 => .assumeSink echo args
  | 10 => .isolate echo args
  | 11 => .setTimers echo args
  | 12 => .setMask echo args
  | 13 => .readEvents echo args
  | 14 => .readFault echo args
  | 15 => .getMarks echo args
  | 16 => .setOverride echo args
  | 17 => .getStats echo args
  | 18 => .linkTest echo args
  | 19 => .restart echo args
  | _ => .unknownCommand echo code args

/-- The command that a received service message is (R167, R168). -/
def messageCommand (bytes : List Byte) : Instr :=
  if Machine.badMessageBytes bytes then .badMessage bytes
  else codeCommand (bytes.getD 0 0) (bytes.getD 1 0) ((bytes.drop 3).take (bytes.getD 2 0).toNat)

end Sys2Proof
end

