-- ==== Sys2Proof/Machine/Flags.lean ====
section
/-! DEFINITION. Every flag of the block: the event bits, the pending set and the attention line, the fault list with its
overrun flag, and the counts that stop at their maximum. -/

namespace Sys2Proof.Machine

/-- The bit position of a cause in the pending set and the mask (R174). -/
def EventCause.bit : EventCause → Nat
  | .linkUp => 0
  | .linkDown => 1
  | .clash => 2
  | .windowSuspended => 3
  | .sweepDone => 4
  | .stallOverflow => 5
  | .holdExpired => 6
  | .markConfirmed => 7
  | .markApplied => 8
  | .applyFault => 9
  | .partnerFault => 10
  | .roleDone => 11
  | .testDone => 12
  | .faultLogged => 13

/-- The set that holds one cause. -/
def EventCause.flag (c : EventCause) : BitVec 14 := 1#14 <<< c.bit

/-- The cause is in the pending set. -/
def Service.isPending (v : Service) (c : EventCause) : Bool := v.events.getLsbD c.bit

/-- A cause joins the pending set, masked or not; a member stays, once (R175). -/
def Service.raise (v : Service) (c : EventCause) : Service := { v with events := v.events ||| c.flag }

/-- The attention line is asserted while a pending cause is not in the mask (R176). -/
def Service.attention (v : Service) : Bool := v.events &&& ~~~v.mask != 0

/-- The attention line at the pin of the unit: deasserted while the cold reset pin is asserted (R176, R184). -/
def State.attention (s : State) : Bool := !s.coldPin && s.service.attention

/-- The outbound lane: undriven while the cold reset pin is asserted, else the frame in transmission or idle fill
(R94, R184). -/
def State.laneOutput (s : State) : LaneOutput :=
  if s.coldPin then .undriven
  else
    match s.link.lane with
    | none => .idleFill
    | some f => .frame f

/-- A fault record is offered: appended, or dropped with the overrun flag set; FAULT_LOGGED is raised (R177). -/
def Service.offer (v : Service) (r : FaultRecord) : Service :=
  if v.faults.length < Config.faultListSize then { v.raise .faultLogged with faults := v.faults ++ [r] }
  else { v.raise .faultLogged with overrun := true }

/-- A count that stops at 2^32 - 1 (R179). -/
def countUp (n : BitVec 32) : BitVec 32 := if n = BitVec.allOnes 32 then n else n + 1

/-- The code of a fault kind in a fault record (R178). -/
def FaultKind.code : FaultKind → Byte
  | .hostTag => 1
  | .poisonWrite => 2
  | .memoryError => 3
  | .overflow => 4
  | .rounds => 5
  | .bogusAck => 6
  | .clash => 7
  | .range => 8
  | .apply => 9
  | .partnerReport => 10
  | .missingReport => 11

/-- The byte of a yes or no. -/
def boolByte (b : Bool) : Byte := if b then 1 else 0

/-- The sixteen bytes of a fault record (R178). -/
def FaultRecord.bytes (r : FaultRecord) : List Byte :=
  [r.kind.code,
    BitVec.ofNat 8
      ((if r.window.isSome then 1 else 0) + (if r.line.isSome then 2 else 0) + (if r.seq.isSome then 4 else 0) +
        (if r.epoch.isSome then 8 else 0))] ++
    beBytes 4 r.time.toNat ++ beBytes 1 ((r.window.map Fin.val).getD 0) ++
    beBytes 5 ((r.line.map fun l => l.address.toNat).getD 0) ++ beBytes 2 ((r.seq.map BitVec.toNat).getD 0) ++
    beBytes 1 ((r.epoch.map BitVec.toNat).getD 0) ++ [0]

/-- The bytes of a mark record up to its epoch: an invalid record is every field 0 (R180). -/
def MarkRecord.bytes (m : MarkRecord) : List Byte :=
  if m.valid then
    [1] ++ beBytes 1 m.window.val ++ beBytes 5 m.target.address.toNat ++ beBytes 1 m.wordIndex.val ++
      m.word.toList ++ beBytes 2 m.seq.toNat ++ beBytes 1 m.epoch.toNat
  else List.replicate 19 0

/-- The twenty bytes of the confirmed-mark record (R180). -/
def MarkRecord.confirmedBytes (m : MarkRecord) : List Byte := m.bytes ++ [boolByte (m.valid && m.reported)]

/-- The six statistics in the order of the results (R179). -/
def Stats.bytes (t : Stats) : List Byte :=
  beBytes 4 t.damagedFrames.toNat ++ beBytes 4 t.rewinds.toNat ++ beBytes 4 t.overflowSuspensions.toNat ++
    beBytes 4 t.holdExpiries.toNat ++ beBytes 4 t.entriesAcked.toNat ++ beBytes 4 t.entriesApplied.toNat

end Sys2Proof.Machine
end

