-- ==== Sys2Proof/Machine/Ops.lean ====
section
/-! DEFINITION. The shared operations of the block: events, faults and responses; windows, dirty set and sweep position;
the journal's merge, conversion and discard; link loss, HAIL, UP and CLASH; the host head; the candidates of the arbiter;
the choice of the lane's next frame; the finishing of an apply entry; the role change; and `settle`, which takes at the
end of a step everything the rules say happens at once. -/

namespace Sys2Proof.Machine

/-! ### Events, faults, statistics, service responses -/

/-- A block raises a cause (R175). -/
def State.raise (s : State) (c : EventCause) : State := s.withService (s.service.raise c)

/-- A block offers a fault record, which carries the time counter at the offer (R177). -/
def State.offerFault (s : State) (kind : FaultKind) (window : Option WinIdx) (line : Option Line) (seq : Option Seq)
    (epoch : Option Epoch) : State :=
  s.withService
    (s.service.offer { kind := kind, time := s.time, window := window, line := line, seq := seq, epoch := epoch })

/-- The statistics change (R179). -/
def State.count (s : State) (f : Stats → Stats) : State := s.withService { s.service with stats := f s.service.stats }

/-- The response message of a service command (R167). -/
def State.reply (s : State) (echo code : Byte) (status : ServiceStatus) (reason : Reason) (results : List Byte) :
    State :=
  s.withService
    { s.service with
      response := some { echo := echo, code := code, status := status, reason := reason, results := results } }

/-- The answer DONE with the results. -/
def State.replyDone (s : State) (echo code : Byte) (results : List Byte) : State :=
  s.reply echo code .done .noReason results

/-- The answer REFUSED with the reason and no results. -/
def State.refuse (s : State) (echo code : Byte) (reason : Reason) : State := s.reply echo code .refused reason []

/-! ### The cold reset pin -/

/-- The state after something that the unit takes only while the cold reset pin is released (R182, R184). -/
def State.unlessHeld (s taken : State) : State := if s.coldPin then s else taken

/-! ### Host responses -/

/-- The host port answers a tag, which becomes free (R43, R44). -/
def State.answer (s : State) (tag : Tag) (status : HostStatus) (data : Option ReadData) : State :=
  s.withHost
    { s.host with
      tags := s.host.tags.filter (· != tag)
      responses := s.host.responses ++ [{ tag := tag, status := status, data := data }] }

/-- The host port answers a held tag and removes its record (R53, R54, R55). -/
def State.answerHeld (s : State) (tag : Tag) (status : HostStatus) : State :=
  (s.answer tag status none).withHost
    { (s.answer tag status none).host with held := s.host.held.filter (·.tag != tag) }

/-- Held tags answered in list order (R35, R55). -/
def State.answerTags (s : State) (tags : List Tag) (status : HostStatus) : State :=
  tags.foldl (fun s t => s.answerHeld t status) s

/-! ### Windows -/

/-- The window indices in rising order. -/
def allWindows : List WinIdx := List.finRange 16

/-- The owning window of a local granule (R2). -/
def State.owner (s : State) (g : Nat) : Option WinIdx :=
  allWindows.find? fun w => s.windows[w].enabled && s.windows[w].localHas g

/-- The owning window of a partner granule (R2). -/
def State.remoteOwner (s : State) (g : Nat) : Option WinIdx :=
  allWindows.find? fun w => s.windows[w].enabled && s.windows[w].remoteHas g

/-- One window record changed. -/
def State.updateWindow (s : State) (w : WinIdx) (f : Window → Window) : State :=
  s.withWindows (s.windows.set w (f s.windows[w]))

/-- Every window record changed alike. -/
def State.updateWindows (s : State) (f : Window → Window) : State :=
  s.withWindows (Vector.ofFn fun i => f s.windows[i])

/-- A window that passes to SUSPENDED, or has its cause rewritten there. -/
def Window.suspend (w : Window) (cause : SuspendCause) : Window := { w with state := .suspended, cause := cause }

/-! ### Dirty set -/

/-- Granule `g` is marked dirty on behalf of window `w`, if `w` is enabled and `g` is in its local range (R2, R77). -/
def State.markDirty (s : State) (w : WinIdx) (g : Nat) : State :=
  if s.windows[w].enabled && s.windows[w].localHas g then s.withDirty (insertBy id g s.dirty) else s

/-- Every granule of window `w` is marked dirty, if `w` is enabled (R2). -/
def State.markWindow (s : State) (w : WinIdx) : State :=
  if s.windows[w].enabled then s.withDirty (insertRange s.windows[w].localBase s.windows[w].size s.dirty) else s

/-- Every granule of every enabled window is marked dirty (R16, R18, R79). -/
def State.markAll (s : State) : State := allWindows.foldl State.markWindow s

/-- The dirty count of window `w` (R76). -/
def State.dirtyCount (s : State) (w : WinIdx) : Nat :=
  countRange s.windows[w].localBase s.windows[w].size s.dirty

/-! ### Sweep engine -/

/-- The engine drops its position, and a read in flight is not current (R88). -/
def State.dropPosition (s : State) : State :=
  s.withSweep { position := none, inFlight := s.sweep.inFlight.map fun r => { r with current := false } }

/-- The engine drops its position if it works in window `w` (R7, R10, R14, R15). -/
def State.dropPositionIn (s : State) (w : WinIdx) : State :=
  match s.sweep.position with
  | none => s
  | some p => if p.window = w then s.dropPosition else s

/-- The engine without a position takes one: the lowest dirty granule of the lowest-indexed SWEEPING window that has
one, from line 0 (R84). -/
def State.choosePosition (s : State) : State :=
  match s.sweep.position with
  | some _ => s
  | none =>
    s.withSweep
      { s.sweep with
        position :=
          allWindows.findSome? fun w =>
            if s.windows[w].state = .sweeping then
              (s.dirty.find? fun g => s.windows[w].localHas g).map fun g =>
                { window := w, granule := g, nextLine := 0 }
            else none }

/-- Every window that meets `p` passes to SUSPENDED with the cause; WINDOW_SUSPENDED is raised if one of them was
capturing; the engine drops its position (R13, R16, R17). -/
def State.suspendWhere (s : State) (p : Window → Bool) (cause : SuspendCause) : State :=
  let t := (s.updateWindows fun w => if p w then w.suspend cause else w).dropPosition
  if allWindows.any fun w => p s.windows[w] && s.windows[w].capturing then t.raise .windowSuspended else t

/-- One enabled window passes to SUSPENDED with the cause; WINDOW_SUSPENDED is raised if it was capturing; the engine
drops its position if it works there (R10, R14, R15). -/
def State.suspendWindow (s : State) (w : WinIdx) (cause : SuspendCause) : State :=
  let t := (s.updateWindow w fun x => x.suspend cause).dropPositionIn w
  if s.windows[w].capturing then t.raise .windowSuspended else t

/-- The R12 test: a SWEEPING window with no dirty granule and no SWEEP entry in the journal passes to MIRRORING, and
SWEEP_DONE is raised. -/
def State.sweepTest (s : State) (w : WinIdx) : State :=
  if s.windows[w].state = .sweeping ∧ s.dirtyCount w = 0 ∧
      (s.journal.entries.all fun e => e.kind != .sweep || e.window != w) = true then
    (s.updateWindow w fun x => { x with state := .mirroring }).raise .sweepDone
  else s

/-! ### Journal -/

/-- The journal's entries replaced. -/
def State.withEntries (s : State) (l : List JournalEntry) : State := s.withJournal { s.journal with entries := l }

/-- The index of the send cursor, the oldest WAITING entry (R23). -/
def Journal.cursor (j : Journal) : Option Nat := j.entries.findIdx? fun e => !e.sent

/-- The SENT count (R19). -/
def Journal.sentCount (j : Journal) : Nat := (j.entries.filter (·.sent)).length

/-- The head position: the head's sequence, or the next sequence (R117). -/
def Journal.headPosition (j : Journal) : Seq :=
  match j.entries with
  | [] => j.nextSeq
  | e :: _ => e.seq

/-- The send position: the cursor's sequence, or the next sequence (R117). -/
def Journal.sendPosition (j : Journal) : Seq :=
  match j.entries.find? fun e => !e.sent with
  | none => j.nextSeq
  | some e => e.seq

/-- A new entry at the tail takes the next sequence, which advances (R21). -/
def Journal.append (j : Journal) (e : JournalEntry) : Journal :=
  { j with entries := j.entries ++ [{ e with seq := j.nextSeq }], nextSeq := j.nextSeq + 1 }

/-- A CAPTURE write to window `w` merges into the tail (R26). A write to a MARKER window never merges (R27). -/
def State.merges (s : State) (w : WinIdx) (line : Line) (poisoned : Bool) : Bool :=
  match s.journal.entries.getLast? with
  | none => false
  | some e =>
    s.windows[w].kind == .mirror && e.kind == .update && !e.everSent && !e.poison &&
      e.heldTags.length < Config.heldTagLimit && !poisoned && e.window == w && e.localLine == line &&
      e.target == s.windows[w].translate line

/-- A CAPTURE write has room (R25). -/
def State.hasRoom (s : State) (w : WinIdx) (line : Line) (poisoned : Bool) : Bool :=
  s.merges w line poisoned || s.journal.entries.length < Config.journalSize

/-- The tail after a merge (R26). -/
def JournalEntry.merge (e : JournalEntry) (mask : Mask) (data : LineData) : JournalEntry :=
  { e with data := mergeData mask data e.data, mask := e.mask ||| mask, isOpen := true }

/-- The Capture Unit at the grant of a CAPTURE write with room: the write merges into the tail, or a new open entry is
appended, UPDATE for a MIRROR window and MARK for a MARKER window (R26, R27). -/
def State.capture (s : State) (w : WinIdx) (line : Line) (mask : Mask) (data : LineData) (poisoned : Bool) : State :=
  if s.merges w line poisoned then
    s.withEntries (s.journal.entries.modify (s.journal.entries.length - 1) fun e => e.merge mask data)
  else
    s.withJournal
      (s.journal.append
        { seq := 0
          kind := if s.windows[w].kind = .mirror then .update else .mark
          window := w
          localLine := line
          target := s.windows[w].translate line
          mask := mask
          data := data
          poison := poisoned
          heldTags := []
          sent := false
          reported := false
          everSent := false
          isOpen := true })

/-- The sequence of the tail, which after a capture carries the captured write. -/
def Journal.tailSeq (j : Journal) : Seq :=
  match j.entries.getLast? with
  | none => 0
  | some e => e.seq

/-- One entry converted: its granule marked dirty on behalf of its window, its held tags answered UNMIRRORED (R38). -/
def State.convertEntry (s : State) (e : JournalEntry) : State :=
  (s.markDirty e.window e.localLine.granule).answerTags e.heldTags .unmirrored

/-- Conversion empties the journal into the dirty set, oldest first (R38). -/
def State.convert (s : State) : State := (s.journal.entries.foldl State.convertEntry s).withEntries []

/-- Discard empties the journal without dirty marking; held tags are answered UNMIRRORED, oldest first (R39). -/
def State.discard (s : State) : State :=
  (s.journal.entries.foldl (fun s e => s.answerTags e.heldTags .unmirrored) s).withEntries []

/-- The entries from index `k` onward return to WAITING (R24). -/
def rewindFrom (k : Nat) (l : List JournalEntry) : List JournalEntry :=
  l.take k ++ (l.drop k).map fun e => { e with sent := false }

/-- The head of the journal leaves by acknowledgment: its held tags are answered, a MARK entry writes the
confirmed-mark record, a SWEEP entry causes the R12 test, and the statistic counts (R35, R127). -/
def State.acknowledgeEntry (s : State) (e : JournalEntry) : State :=
  let s := s.answerTags e.heldTags (if e.reported then .unmirrored else .okay)
  let s :=
    if e.kind = .mark then
      (s.withSeq
        { s.seq with
          confirmedMark :=
            { valid := true
              window := e.window
              target := e.target
              wordIndex := wordIndexOf e.mask
              word := wordAt e.data (wordIndexOf e.mask)
              seq := e.seq
              epoch := s.link.epoch
              reported := e.reported } }).raise
        .markConfirmed
    else s
  let s := if e.kind = .sweep then s.sweepTest e.window else s
  s.count fun t => { t with entriesAcked := countUp t.entriesAcked }

/-- The oldest `n` entries leave by acknowledgment, one at a time (R35). -/
def State.acknowledge : Nat → State → State
  | 0, s => s
  | n + 1, s =>
    match s.journal.entries with
    | [] => s
    | e :: rest => State.acknowledge n ((s.withEntries rest).acknowledgeEntry e)

/-! ### Link -/

/-- The link enters HAIL from DOWN if R103 allows: a SOURCE advances its epoch (R102), and a HELLO becomes owed. -/
def State.enterHail (s : State) : State :=
  if s.link.state = .down ∧ (s.role = .source ∨ s.role = .sink) ∧ s.link.signal = .present ∧
      s.link.test.running = false then
    s.withLink
      { s.link with
        state := .hail
        epoch := if s.role = .source then nextEpoch s.link.epoch else s.link.epoch
        lastHello := none
        helloDue := true }
  else s

/-- The link leaves HAIL or CLASH for DOWN without link loss (R95, R111): an owed HELLO is withdrawn (R103). -/
def State.leaveLink (s : State) : State :=
  s.withLink { s.link with state := .down, lastReceipt := none, lastHello := none, helloDue := false }

/-- The SOURCE's part of link loss: windows suspended with the cause (R13), the journal converted (R38), the
sequencer's timers stopped (R131). -/
def State.sourceLoss (s : State) (cause : SuspendCause) : State :=
  let s := (s.suspendWhere Window.capturing cause).convert
  s.withSeq { s.seq with ackStart := none, lastSend := none }

/-- The SINK's part of link loss: flags cleared, NAK slot and report queue emptied, a reply withdrawn (R149). -/
def State.sinkLoss (s : State) : State :=
  s.withRx
    { s.rx with
      ackPending := false, nakOutstanding := false, nakSlot := none, reportQueue := [], replyOwed := false }

/-- Link loss (R110): it acts only while the link is UP. The re-entry to HAIL is `enterHail`. -/
def State.linkLoss (s : State) (cause : SuspendCause) : State :=
  if s.link.state = .up then
    let t := s.leaveLink.raise .linkDown
    match s.role with
    | .source => t.sourceLoss cause
    | .sink => t.sinkLoss
    | .isolated => t
    | .draining => t
  else s

/-- The link enters UP (R107, R116). -/
def State.linkUp (s : State) : State :=
  let t :=
    (s.withLink
      { s.link with state := .up, lastReceipt := some s.time, lastHello := none, helloDue := false }).raise .linkUp
  if s.role = .source then
    t.withSeq { t.seq with ackStart := none, lastSend := some s.time, rounds := 0, processed := 0 }
  else t

/-- A SOURCE enters CLASH on a HELLO(SOURCE) of epoch `e` (R108). -/
def State.enterClash (s : State) (e : Epoch) : State :=
  ((s.withLink
      { s.link with state := .clash, lastReceipt := none, lastHello := none, helloDue := false }).raise
    .clash).offerFault .clash none none none (some e)

/-- A SINK adopts the session of HELLO(SOURCE, e, b) (R105). -/
def State.adopt (s : State) (e : Epoch) (b : Seq) : State :=
  let s := s.withLink { s.link with epoch := e }
  let s :=
    s.withRx
      { s.rx with
        expected := b, lastApplied := b - 1, applyFaults := 0, nakOutstanding := false, nakSlot := none
        ackPending := false }
  let s := s.linkUp
  s.withRx { s.rx with replyOwed := true }

/-- A good HELLO acted on under HAIL: R104 on a SOURCE, R105 on a SINK. -/
def State.hailHello (s : State) (h : Hello) : State :=
  match s.role, h with
  | .source, .sink e => if e = s.link.epoch then s.linkUp else s
  | .source, .source e _ => s.enterClash e
  | .sink, .source e b =>
    if s.rx.applyQueue.length ≤ Config.hailLevel ∧ (s.rx.applyQueue.all fun a => a.epoch != e) = true then s.adopt e b
    else s
  | .sink, .sink _ => s
  | .isolated, _ => s
  | .draining, _ => s

/-! ### The host head -/

/-- The classes of a host write (01, section 1.3), with the owning window where the class uses it. -/
inductive WriteClass where
  | pass
  | track (w : WinIdx)
  | capture (w : WinIdx)
  | fence
  deriving DecidableEq, Repr

/-- The class of a host write to a line (R9). An ISOLATED unit has no capturing window. -/
def State.classify (s : State) (line : Line) : WriteClass :=
  match s.owner line.granule with
  | none => .pass
  | some w =>
    match s.role with
    | .source => if s.windows[w].capturing then .capture w else .track w
    | .isolated => .track w
    | .sink => if s.service.override then .pass else .fence
    | .draining => if s.service.override then .pass else .fence

/-- A host read of the line is held by a sink hazard (R59). -/
def State.hazard (s : State) (line : Line) : Bool :=
  (s.role == .sink || s.role == .draining) && s.rx.applyQueue.any fun e => e.target == line

/-- The condition of a request at the head (R46, R47): one of the head conditions, or answered at the head. -/
inductive HeadCondition where
  | ready
  | stalled
  | hazard
  | answered (status : HostStatus)
  deriving DecidableEq, Repr

/-- The condition the request has when it is the head (R47). -/
def State.condition (s : State) (r : QueuedRequest) : HeadCondition :=
  match r.op with
  | .read => if s.hazard r.line then .hazard else .ready
  | .write mask _ poisoned =>
    if mask = 0 then .answered .okay
    else
      match s.classify r.line with
      | .fence => .answered .fenced
      | .pass => .ready
      | .track _ => .ready
      | .capture w => if s.hasRoom w r.line poisoned then .ready else .stalled

/-- The condition of the head of the host queue, if there is one. -/
def State.headCondition (s : State) : Option HeadCondition := s.host.queue.head?.map s.condition

/-- Requests answered at the head leave the queue one after another until a head stays (R47, R56). -/
def State.answerHeads : List QueuedRequest → State → State
  | [], s => s.withHost { s.host with queue := [] }
  | r :: rest, s =>
    match s.condition r with
    | .answered status => State.answerHeads rest (s.answer r.tag status none)
    | .ready => s.withHost { s.host with queue := r :: rest }
    | .stalled => s.withHost { s.host with queue := r :: rest }
    | .hazard => s.withHost { s.host with queue := r :: rest }

/-- The stall start is set when the head begins to lack room, and cleared while no head lacks it (R33). -/
def State.timeStall (s : State) : State :=
  if s.headCondition = some .stalled then
    match s.journal.stallStart with
    | some _ => s
    | none => s.withJournal { s.journal with stallStart := some s.time }
  else s.withJournal { s.journal with stallStart := none }

/-! ### Candidates of the arbiter -/

/-- The head of the apply queue is on the memory port (R140, ON PORT). -/
def State.headOnPort (s : State) : Bool :=
  match s.port.op with
  | some { owner := .apply _ _ discarded, .. } => !discarded
  | _ => false

/-- The apply head is a candidate: PRESENTED by the apply engine (R68, R140). -/
def State.applyCandidate (s : State) : Bool :=
  match s.rx.applyQueue with
  | [] => false
  | e :: _ =>
    !s.headOnPort && s.rx.reportQueue.length < Config.reportQueueSize && e.mask != 0 &&
      (s.owner e.target.granule).isSome

/-- The sweep engine is a candidate (R68, R85): more than 64 free slots stand in the journal (R32). -/
def State.sweepCandidate (s : State) : Bool :=
  s.role == .source && s.sweep.position.isSome && s.sweep.inFlight.isNone &&
    s.journal.entries.length + Config.hostReserve < Config.journalSize

/-- The internal side has something to request (R68). -/
def State.internalStands (s : State) : Bool := s.applyCandidate || s.sweepCandidate

/-- The passed-over count returns to 0 when the internal side has nothing to request (R71). -/
def State.clearPassedOver (s : State) : State :=
  if s.internalStands then s else s.withPort { s.port with passedOver := 0 }

/-! ### The outbound lane -/

/-- The transmission of a frame begins (R94). -/
def State.beginFrame (s : State) (f : Frame) : State := s.withLink { s.link with lane := some f }

/-- The data frame built from a journal entry (R96, R118). -/
def JournalEntry.frame (e : JournalEntry) (epoch : Epoch) : DataFrame where
  kind := e.kind
  epoch := epoch
  seq := e.seq
  window := e.window
  target := e.target
  mask := e.mask
  poison := e.poison
  data := e.data

/-- The entry at the send cursor that may be sent: not open, with fewer than 32 entries SENT (R23, R118 line 1). -/
def Journal.sendable (j : Journal) : Option JournalEntry :=
  match j.entries.find? fun e => !e.sent with
  | none => none
  | some e => if e.isOpen = false ∧ j.sentCount < Config.inFlightLimit then some e else none

/-- The oldest WAITING entry becomes SENT, with ever sent yes (R23). -/
def sendFirst : List JournalEntry → List JournalEntry
  | [] => []
  | e :: l => if e.sent then e :: sendFirst l else { e with sent := true, everSent := true } :: l

/-- Line 1 of R118: the cursor entry goes out and becomes SENT; the ack start is set if no entry was SENT (R120). -/
def State.sendEntry (s : State) (e : JournalEntry) : State :=
  let t := (s.beginFrame (.data (e.frame s.link.epoch))).withEntries (sendFirst s.journal.entries)
  t.withSeq
    { t.seq with
      lastSend := some s.time
      ackStart := if s.journal.sentCount = 0 then some s.time else t.seq.ackStart }

/-- Line 2 of R118: a PROBE goes out (R119). -/
def State.sendProbe (s : State) : State :=
  let t := s.beginFrame (.probe s.link.epoch)
  t.withSeq { t.seq with lastSend := some s.time }

/-- An owed HELLO goes out: it is no longer owed, and the last-HELLO-sent time is set (R103). -/
def State.sendHello (s : State) (h : Hello) : State :=
  let t := s.beginFrame (.hello h)
  t.withLink { t.link with helloDue := false, lastHello := some s.time }

/-- The sequencer's choice of R118. Line 2 is looked at when `probe` says that the lane became free or that the idle
time may have reached tPROBE. -/
def State.sourceFrame (s : State) (probe : Bool) : State :=
  match s.journal.sendable with
  | some e => s.sendEntry e
  | none => if probe && reached s.time s.seq.lastSend s.service.timers.tProbe then s.sendProbe else s

/-- The sink transmitter's choice in UP: lines 1 to 4 of R147, with the frames of R148 and R137. -/
def State.sinkFrame (s : State) : State :=
  match s.rx.reportQueue, s.rx.nakSlot with
  | r :: rest, _ => (s.beginFrame (.report r)).withRx { s.rx with reportQueue := rest }
  | [], some reason => (s.beginFrame (.nak s.link.epoch s.rx.expected reason)).withRx { s.rx with nakSlot := none }
  | [], none =>
    if s.rx.ackPending then
      (s.beginFrame (.ack s.link.epoch s.rx.lastApplied s.rx.applyFaults)).withRx { s.rx with ackPending := false }
    else if s.rx.replyOwed then
      (s.beginFrame (.hello (.sink s.link.epoch))).withRx { s.rx with replyOwed := false }
    else s

/-- A HELLO is owed: its time has come, and on a SINK the apply queue holds 16 or fewer entries (R103). -/
def State.helloOwed (s : State) : Bool :=
  s.link.helloDue && (s.role == .source || s.rx.applyQueue.length ≤ Config.hailLevel)

/-- The next frame is chosen when the lane is free (R94, R103, R118, R147). -/
def State.chooseFrame (s : State) (probe : Bool) : State :=
  match s.link.lane with
  | some _ => s
  | none =>
    match s.role, s.link.state with
    | .source, .up => s.sourceFrame probe
    | .source, .hail => if s.helloOwed then s.sendHello (.source s.link.epoch s.journal.nextSeq) else s
    | .sink, .up => s.sinkFrame
    | .sink, .hail => if s.helloOwed then s.sendHello (.sink s.link.epoch) else s
    | _, _ => s

/-! ### What comes about at once at the end of a step -/

/-- Everything the rules say happens at once when its condition comes to hold: HAIL is entered (R103), requests are
answered at the head (R47), the lane takes its next frame (R118, R147), the stall start follows the head (R33), the sweep
engine takes a position (R84), and the passed-over count clears (R71). -/
def State.settleWith (s : State) (probe : Bool) : State :=
  let s := s.enterHail
  let s := State.answerHeads s.host.queue s
  (((s.chooseFrame probe).timeStall).choosePosition).clearPassedOver

/-- `settleWith` at a step that neither frees the lane nor moves the idle time. -/
def State.settle (s : State) : State := s.settleWith false

/-! ### Role change -/

/-- Part 2 of R155: link loss with cause ROLE from UP, else DOWN without link loss (R111). ISOLATE from SOURCE converts
whatever the link state (R38). -/
def State.roleLink (s : State) (new : Role) : State :=
  let t :=
    match s.link.state with
    | .up => s.linkLoss .role
    | .hail => s.leaveLink
    | .clash => s.leaveLink
    | .down => s
  if s.role = .source ∧ new = .isolated then t.convert else t

/-- Part 4 of R155: the window states and causes (R17). -/
def State.roleWindows (s : State) (old new : Role) : State :=
  if new = .sink then s.suspendWhere Window.enabled .role
  else if old = .source then s.suspendWhere Window.capturing .role
  else s

/-- Part 5 of R155: the dirty set (R79). -/
def State.roleDirty (s : State) (old new : Role) : State :=
  if new = .sink then s.withDirty []
  else if (old = .sink ∧ new = .isolated) ∨ old = .draining then s.markAll
  else s

/-- A role change, parts 2 to 8 in the order of R155. Part 1, the forced discard, is ASSUME_SINK's own (R159). -/
def State.changeRole (s : State) (new : Role) : State :=
  let old := s.role
  let s := (s.roleLink new).withRole new
  let s := (s.roleWindows old new).roleDirty old new
  (s.withService { s.service with override := false }).settle

/-- The end of a drain: the unit becomes SOURCE, and ROLE_DONE is raised (R161). With the signal PRESENT it enters HAIL with
an advanced epoch and hails, and an ISOLATE that follows takes neither back, where R162 says that the two orders of the
completion and ISOLATE differ only in ROLE_DONE: the model's choice, assumption log 35. -/
def State.endDrain (s : State) : State := (s.changeRole .source).raise .roleDone

/-- The drain ends at the moment the apply queue of a DRAINING unit is empty (R161). -/
def State.drainCheck (s : State) : State :=
  if s.role = .draining ∧ s.rx.applyQueue = [] then s.endDrain else s

/-! ### Finishing an apply entry -/

/-- How an apply entry was finished (R142). -/
inductive Finish where
  /-- Its write completed OK. -/
  | written
  /-- It needed no write: an empty mask (R140). -/
  | unwritten
  /-- A fault was met, with the window the fault record holds (R143). -/
  | fault (kind : ApplyFault) (window : Option WinIdx)
  deriving DecidableEq, Repr

/-- The entry is finished with session effect now (R139). -/
def State.sessionEffect (s : State) (e : ApplyEntry) : Bool :=
  s.role == .sink && s.link.state == .up && e.epoch == s.link.epoch

/-- The applied-mark record that a MARK entry writes (R145). -/
def ApplyEntry.markRecord (e : ApplyEntry) : MarkRecord where
  valid := true
  window := e.window
  target := e.target
  wordIndex := wordIndexOf e.mask
  word := wordAt e.data (wordIndexOf e.mask)
  seq := e.seq
  epoch := e.epoch
  reported := false

/-- The write of an entry completed OK: the statistic counts, and a MARK entry writes its record (R142 step 2, R145). -/
def State.countApplied (s : State) (e : ApplyEntry) : State :=
  let s := s.count fun t => { t with entriesApplied := countUp t.entriesApplied }
  if e.kind = .mark then (s.withRx { s.rx with appliedMark := e.markRecord }).raise .markApplied else s

/-- The fault kind of the record that an apply fault offers (R143). -/
def applyFaultKind : ApplyFault → FaultKind
  | .range => .range
  | .apply => .apply

/-- A fault of the apply engine: recorded, APPLY_FAULT raised, and with session effect counted and reported (R143). -/
def State.applyFault (s : State) (e : ApplyEntry) (kind : ApplyFault) (window : Option WinIdx) : State :=
  let t := (s.offerFault (applyFaultKind kind) window (some e.target) (some e.seq) (some e.epoch)).raise .applyFault
  if s.sessionEffect e then
    t.withRx
      { t.rx with
        applyFaults := t.rx.applyFaults + 1
        reportQueue := t.rx.reportQueue ++ [{ epoch := t.link.epoch, seq := e.seq, kind := kind, target := e.target }] }
  else t

/-- Step 4 of R142: with session effect, last-applied becomes the entry's sequence and ack pending is set. -/
def State.moveApplied (s : State) (e : ApplyEntry) : State :=
  if s.sessionEffect e then s.withRx { s.rx with lastApplied := e.seq, ackPending := true } else s

/-- An entry is finished, in the order of R142. -/
def State.finishEntry (s : State) (e : ApplyEntry) (how : Finish) : State :=
  let s := s.withRx { s.rx with applyQueue := s.rx.applyQueue.tail }
  let s :=
    match how with
    | .written => s.countApplied e
    | .unwritten => s
    | .fault kind window => s.applyFault e kind window
  s.moveApplied e

end Sys2Proof.Machine
end

