-- ==== Sys2Proof/Machine/Grant.lean ====
section
/-! DEFINITION. What the apply engine and the arbiter do at once: the examination of the apply head (R140) and the grant at
an idle port (R69, R70). `State.prompt` takes what is due of the two, and `State.take` lets an event find it taken. -/

namespace Sys2Proof.Machine

/-! ### Examination of the apply head -/

/-- The entries of the apply queue examined from the head on (R140), within the step that finished the one before them
(R142 step 1): the head stays while it is on the port, while the report queue is full, and when it is PRESENTED; with an
empty mask or a target in no enabled window it is finished, with all of its effects, and then the next head is examined
(assumption log 30). -/
def State.examineFrom : List ApplyEntry → State → State
  | [], s => s
  | e :: rest, s =>
    if s.headOnPort ∨ Config.reportQueueSize ≤ s.rx.reportQueue.length then s
    else if e.mask = 0 then State.examineFrom rest (s.finishEntry e .unwritten)
    else
      match s.owner e.target.granule with
      | some _ => s
      | none => State.examineFrom rest (s.finishEntry e (.fault .range none))

/-- The head of the apply queue is examined (R140), and after a finish the next one (R142). -/
def State.examine (s : State) : State := State.examineFrom s.rx.applyQueue s

/-- The examination would finish the head without a write (R140). -/
def State.examineDue (s : State) : Bool :=
  match s.rx.applyQueue with
  | [] => false
  | e :: _ =>
    !s.headOnPort && s.rx.reportQueue.length < Config.reportQueueSize &&
      (e.mask == 0 || (s.owner e.target.granule).isNone)

/-- The examination as a step: a queue it empties ends the drain of a DRAINING unit (R142, R161). -/
def State.examineNow (s : State) : State := if s.examineDue then s.examine.drainCheck.settle else s

/-- Examinations until none is due: each one takes an entry off the queue, so as many as it holds suffice. -/
def State.examineAll : Nat → State → State
  | 0, s => s
  | n + 1, s => if s.examineDue then State.examineAll n s.examineNow else s

/-! ### Grants -/

/-- Who is granted. -/
inductive Grantee where
  | host | sweep | apply
  deriving DecidableEq, Repr

/-- The internal candidate: the apply head if it stands, and the sweep engine otherwise (R68, R70 note 3). -/
def State.internalCandidate (s : State) : Grantee := if s.applyCandidate then .apply else .sweep

/-- The arbiter's choice at an idle port, with the passed-over count after it: the rows of R70 in their order, and none
when no candidate stands. -/
def State.arbiterChoice (s : State) : Option (Grantee × Nat) :=
  if s.applyCandidate ∧ s.headCondition = some .hazard then some (.apply, 0)
  else if s.applyCandidate ∧ Config.applyUrgentLevel ≤ s.rx.applyQueue.length then some (.apply, 0)
  else if s.headCondition = some .ready then
    if s.internalStands then
      if s.port.passedOver < Config.passedOverLimit then some (.host, s.port.passedOver + 1)
      else some (s.internalCandidate, 0)
    else some (.host, 0)
  else if s.internalStands then some (s.internalCandidate, 0)
  else none

/-- The operation is put on the port (R63). -/
def State.putOnPort (s : State) (line : Line) (access : Access) (owner : Owner) : State :=
  s.withPort { s.port with op := some { line := line, access := access, owner := owner } }

/-- The host write goes on the port as `grant`. -/
def State.putHostWrite (s : State) (r : QueuedRequest) (mask : Mask) (data : LineData) (poisoned : Bool)
    (grant : HostGrant) : State :=
  s.putOnPort r.line (.write mask data poisoned) (.host (some r.tag) grant)

/-- The host head is granted: it leaves the queue, its tag passes to the port, the stall start is cleared, and its class
at this instant decides the capture or the dirty mark (R72, R11, R58). -/
def State.grantHost (s : State) (r : QueuedRequest) (rest : List QueuedRequest) : State :=
  let t := s.withHost { s.host with queue := rest }
  let t := t.withJournal { t.journal with stallStart := none }
  match r.op with
  | .read => t.putOnPort r.line .read (.host (some r.tag) .read)
  | .write mask data poisoned =>
    match s.classify r.line with
    | .pass => t.putHostWrite r mask data poisoned .pass
    | .fence => t.putHostWrite r mask data poisoned .pass
    | .track w => (t.markDirty w r.line.granule).putHostWrite r mask data poisoned .track
    | .capture w =>
      let u := t.capture w r.line mask data poisoned
      u.putHostWrite r mask data poisoned (.capture s.windows[w].cls u.journal.tailSeq)

/-- The sweep engine is granted: it records the read in flight as current (R85). -/
def State.grantSweep (s : State) (p : SweepPosition) : State :=
  (s.withSweep
      { s.sweep with
        inFlight := some { window := p.window, granule := p.granule, line := p.nextLine, current := true } }).putOnPort
    (lineOf p.granule p.nextLine) .read (.sweep p.window false)

/-- An apply write granted on a SOURCE or ISOLATED unit is classified by its target line's owning window (R10). -/
def State.classifyApply (s : State) (line : Line) : State :=
  if s.role = .source ∨ s.role = .isolated then
    match s.owner line.granule with
    | none => s
    | some w =>
      if s.windows[w].capturing then (s.suspendWindow w .role).markDirty w line.granule
      else s.markDirty w line.granule
  else s

/-- The apply head is granted: its write goes on the port with its mask, data and poison, and the entry stays at the
head of the queue (R72, R141). The mask of a SWEEP entry is all 64 bytes. -/
def State.grantApply (s : State) (e : ApplyEntry) : State :=
  (s.classifyApply e.target).putOnPort e.target (.write e.mask e.data e.poison)
    (.apply e (s.owner e.target.granule) false)

/-- The granted owner acts (R72). -/
def State.grantTo (s : State) : Grantee → State
  | .host =>
    match s.host.queue with
    | [] => s
    | r :: rest => s.grantHost r rest
  | .sweep =>
    match s.sweep.position with
    | none => s
    | some p => s.grantSweep p
  | .apply =>
    match s.rx.applyQueue with
    | [] => s
    | e :: _ => s.grantApply e

/-- The passed-over count replaced (R71). -/
def State.withPassedOver (s : State) (n : Nat) : State := s.withPort { s.port with passedOver := n }

/-- The arbiter would make a grant (R69). -/
def State.grantDue (s : State) : Bool := s.port.op.isNone && s.arbiterChoice.isSome

/-- A grant at an idle port with a candidate standing, by the rows of the arbiter; otherwise no grant is made (R64, R69,
R70). -/
def State.grantNow (s : State) : State :=
  if s.port.op.isSome then s
  else
    match s.arbiterChoice with
    | none => s
    | some (g, n) => ((s.grantTo g).withPassedOver n).settle

/-! ### Before the next event -/

/-- What is due at once is taken: the apply head is examined until no examination is due (R140), and then the arbiter
grants if it can (R69). While the cold reset pin is asserted nothing is due (R184). -/
def State.prompt (s : State) : State :=
  if s.coldPin then s else (State.examineAll s.rx.applyQueue.length s).grantNow

/-- An event finds what was due at once before it taken (assumption log 29). While the cold reset pin is asserted the unit
takes no event (R182, R184). -/
def State.take (s : State) (event : State → State) : State := if s.coldPin then s else event s.prompt

end Sys2Proof.Machine
end

