-- ==== Sys2Proof/Machine/Timers.lean ====
section
/-! DEFINITION. What happens when a timer expires, shared by the expiry commands and by SET_TIMERS (R173). Each effect acts
only when its timer is due. -/

namespace Sys2Proof.Machine

/-- The stall of the head CAPTURE write has expired (R33). -/
def State.stallDue (s : State) : Bool :=
  s.headCondition == some .stalled && reached s.time s.journal.stallStart s.service.timers.tStall

/-- The held record of the tag has reached age tHELD (R54). -/
def State.holdDue (s : State) (tag : Tag) : Bool :=
  s.host.held.any fun r => r.tag == tag && s.service.timers.tHeld ≤ elapsed s.time r.start

/-- The acknowledgment timer has expired (R120). -/
def State.ackDue (s : State) : Bool :=
  s.role == .source && s.link.state == .up && reached s.time s.seq.ackStart s.service.timers.tAck

/-- The idle time has reached tPROBE, the lane is free and no data frame can be sent (R118 line 2, R119). -/
def State.probeDue (s : State) : Bool :=
  s.role == .source && s.link.state == .up && s.link.lane.isNone && s.journal.sendable.isNone &&
    reached s.time s.seq.lastSend s.service.timers.tProbe

/-- The silent time has reached tQUIET in UP (R109). -/
def State.silenceDue (s : State) : Bool :=
  s.link.state == .up && reached s.time s.link.lastReceipt s.service.timers.tQuiet

/-- tHAIL has passed since the last HELLO was sent in HAIL (R103). -/
def State.helloRepeatDue (s : State) : Bool :=
  s.link.state == .hail && !s.link.helloDue && reached s.time s.link.lastHello Config.tHail

/-- Overflow suspension for the head write of window `w` to `line` (R34). -/
def State.overflowSuspend (s : State) (w : WinIdx) (line : Line) : State :=
  (((s.suspendWhere Window.capturing .overflow).offerFault .overflow (some w) (some line) none none).raise
    .stallOverflow).count fun t => { t with overflowSuspensions := countUp t.overflowSuspensions }

/-- The stall expires (R33, R34). -/
def State.expireStall (s : State) : State :=
  if s.stallDue then
    match s.host.queue with
    | [] => s
    | r :: _ =>
      match s.classify r.line with
      | .capture w => (s.overflowSuspend w r.line).settle
      | .pass => s
      | .track _ => s
      | .fence => s
  else s

/-- The tag taken off the held-tag list of the entry with the sequence (R37). -/
def State.releaseTag (s : State) (seq : Seq) (tag : Tag) : State :=
  s.withEntries
    (s.journal.entries.map fun e =>
      if e.seq = seq then { e with heldTags := e.heldTags.filter (· != tag) } else e)

/-- The held record of the tag expires: the five parts of R54, in their order. -/
def State.expireHold (s : State) (tag : Tag) : State :=
  if s.holdDue tag then
    match s.host.held.find? fun r => r.tag == tag with
    | none => s
    | some r =>
      let t := (((s.answerHeld tag .unmirrored).releaseTag r.seq tag).raise .holdExpired)
      (t.count fun c => { c with holdExpiries := countUp c.holdExpiries }).settle
  else s

/-- A rewind to the entry at index `k` is asked for (R122): taken, with the ack start of R120, or the rounds are
exhausted and link loss is taken. -/
def State.askRewind (s : State) (k : Nat) : State :=
  if s.seq.rounds + 1 ≤ s.service.timers.roundLimit then
    let t := s.withEntries (rewindFrom k s.journal.entries)
    let t :=
      t.withSeq
        { t.seq with rounds := s.seq.rounds + 1, ackStart := if k = 0 then none else some s.time }
    t.count fun c => { c with rewinds := countUp c.rewinds }
  else
    (s.offerFault .rounds none none (some s.journal.headPosition) (some s.link.epoch)).linkLoss .link

/-- The acknowledgment timer expires: a rewind to the head is asked for (R120). -/
def State.expireAck (s : State) : State := if s.ackDue then (s.askRewind 0).settle else s

/-- The idle time reaches tPROBE: a PROBE is sent (R119). -/
def State.expireProbe (s : State) : State := if s.probeDue then (s.chooseFrame true).settle else s

/-- The silence expires: link loss is taken (R109). -/
def State.expireSilence (s : State) : State := if s.silenceDue then (s.linkLoss .link).settle else s

/-- tHAIL has passed: another HELLO becomes owed (R103). -/
def State.repeatHello (s : State) : State :=
  if s.helloRepeatDue then (s.withLink { s.link with helloDue := true }).settle else s

/-- The tags in rising order. -/
def allTags : List Tag := List.finRange 16

/-- The timers that SET_TIMERS can make expire (R173). -/
inductive TimerName where
  | ack | probe | quiet | stall | held
  deriving DecidableEq, Repr

/-- The timer is due. -/
def State.timerDue (s : State) : TimerName → Bool
  | .ack => s.ackDue
  | .probe => s.probeDue
  | .quiet => s.silenceDue
  | .stall => s.stallDue
  | .held => allTags.any s.holdDue

/-- The timer expires. Held records expire together, in tag order (R54). -/
def State.expireTimer (s : State) : TimerName → State
  | .ack => s.expireAck
  | .probe => s.expireProbe
  | .quiet => s.expireSilence
  | .stall => s.expireStall
  | .held => allTags.foldl State.expireHold s

/-- Every timer that is due expires, in the step of SET_TIMERS (R173). The order of two or more is open, so it is a free
value (assumption log 4). -/
def State.expireDueTimers (s : State) : State :=
  let due := [TimerName.ack, .probe, .quiet, .stall, .held].filter s.timerDue
  if due.length ≤ 1 then due.foldl State.expireTimer s
  else ((permute (Config.freeOrder s.freeCount) due).foldl State.expireTimer s).withFreeCount (s.freeCount + 1)

end Sys2Proof.Machine
end

