-- ==== Sys2Proof/Machine/Apply.lean ====
section
/-! DEFINITION. The commands of the receive checker and the apply engine: RECEIVE_DATA_FRAME, RECEIVE_PROBE,
APPLY_HEAD_EXAMINE and DRAIN_END. -/

namespace Sys2Proof.Machine

/-- A frame is received: the inbound signal is PRESENT (R95 note 1) and no loopback test runs (R115). -/
def State.receives (s : State) : Bool := s.link.signal == .present && !s.link.test.running

/-- A good frame arriving in UP restarts the silence timer, whatever its kind and epoch (R100 note 1, R109). -/
def State.noteReceipt (s : State) : State :=
  if s.link.state = .up then s.withLink { s.link with lastReceipt := some s.time } else s

/-- The frame is handed to the receive checker (R100). -/
def State.toChecker (s : State) : Bool := s.role == .sink && s.link.state == .up

/-- The frame is handed to the transmit sequencer (R100). -/
def State.toSequencer (s : State) : Bool := s.role == .source && s.link.state == .up

/-- The apply-queue entry of an accepted frame (R134 note 1, R138). -/
def entryOf (f : DataFrame) : ApplyEntry where
  epoch := f.epoch
  seq := f.seq
  kind := f.kind
  window := f.window
  target := f.target
  mask := if f.kind = .sweep then fullMask else f.mask
  data := f.data
  poison := f.poison

/-- A loss is asked about: with NAK-outstanding clear a NAK is placed in the slot and the flag set (R137). -/
def Receiver.placeNak (x : Receiver) (reason : NakReason) : Receiver :=
  if x.nakOutstanding then x else { x with nakSlot := some reason, nakOutstanding := true }

/-- A data frame of the unit's epoch, by its sequence (R134). -/
def Receiver.checkFrame (x : Receiver) (f : DataFrame) : Receiver :=
  if f.seq = x.expected then
    if x.applyQueue.length < Config.applyQueueSize then
      { x with
        applyQueue := x.applyQueue ++ [entryOf f]
        expected := x.expected + 1
        nakOutstanding := false
        nakSlot := none }
    else x
  else if seqBehind f.seq x.expected then { x with ackPending := true }
  else x.placeNak .gap

/-- RECEIVE_DATA_FRAME (R100, R134). -/
def execReceiveDataFrame (f : DataFrame) (s : State) : Host.Outcome State Fault Refusal :=
  .next
    (s.take fun s =>
      if s.receives then
        let t := s.noteReceipt
        if t.toChecker ∧ f.epoch = t.link.epoch then (t.withRx (t.rx.checkFrame f)).settle else t
      else s)

/-- RECEIVE_PROBE: of the present epoch at a SINK in UP it sets ack pending (R100, R136). -/
def execReceiveProbe (epoch : Epoch) (s : State) : Host.Outcome State Fault Refusal :=
  .next
    (s.take fun s =>
      if s.receives then
        let t := s.noteReceipt
        if t.toChecker ∧ epoch = t.link.epoch then (t.withRx { t.rx with ackPending := true }).settle else t
      else s)

/-- APPLY_HEAD_EXAMINE: WITHHELD while the report queue is full, finished without a write for an empty mask or a target in
no enabled window, and left PRESENTED otherwise (R140). While the cold reset pin is asserted nothing is examined (R184). -/
def execApplyHeadExamine (s : State) : Host.Outcome State Fault Refusal := .next (s.unlessHeld s.examineNow)

/-- DRAIN_END: a DRAINING unit whose apply queue is empty becomes SOURCE (R161). A step that empties the queue ends the
drain within itself, so this command finds it still standing only when no such step came before (assumption log 5). -/
def execDrainEnd (s : State) : Host.Outcome State Fault Refusal := .next (s.take State.drainCheck)

end Sys2Proof.Machine
end

