-- ==== Sys2Proof/Machine/HostPort.lean ====
section
/-! DEFINITION. The commands of the Host Port: HOST_REQUEST, HOST_PORT_RESET, HOST_PORT_RESET_RELEASE, STALL_EXPIRY and
HOLD_EXPIRY. -/

namespace Sys2Proof.Machine

/-- The request as it is queued: the parity of a write is checked at acceptance (R48). -/
def queuedOf (r : HostRequest) : QueuedRequest where
  tag := r.tag
  line := r.line
  op :=
    match r.op with
    | .read => .read
    | .write mask data parity => .write mask data (parityPoisoned mask data parity)

/-- The queued request is a parity-poisoned write. -/
def QueuedRequest.isPoisoned (q : QueuedRequest) : Bool :=
  match q.op with
  | .read => false
  | .write _ _ poisoned => poisoned

/-- A request is accepted: its tag joins the set of tags in use and it joins the tail of the queue (R43); a
parity-poisoned write records POISON_WRITE (R48). -/
def State.acceptRequest (s : State) (q : QueuedRequest) : State :=
  let s :=
    if q.isPoisoned then s.offerFault .poisonWrite (s.owner q.line.granule) (some q.line) none none else s
  s.withHost { s.host with queue := s.host.queue ++ [q], tags := insertBy Fin.val q.tag s.host.tags }

/-- HOST_REQUEST: refused without a trace while the reset line or the cold reset pin is asserted (R61, R184); discarded
with fault HOST_TAG if its tag is in use; accepted otherwise (R43). -/
def execHostRequest (r : HostRequest) (s : State) : Host.Outcome State Fault Refusal :=
  .next
    (s.take fun s =>
      if s.host.resetLine then s
      else if r.tag ∈ s.host.tags then s.offerFault .hostTag (s.owner r.line.granule) (some r.line) none none
      else (s.acceptRequest (queuedOf r)).settle)

/-- The host tag of an operation on the port is dropped (R61, R63). -/
def Operation.dropTag (o : Operation) : Operation :=
  match o.owner with
  | .host _ grant => { o with owner := .host none grant }
  | .sweep _ _ => o
  | .apply _ _ _ => o

/-- The host port reset: the five parts of R61, with R40 for the held-tag lists and R33 for the stall start. -/
def State.hostPortReset (s : State) : State :=
  let t := s.withHost { s.host with queue := [], held := [], tags := [], resetLine := true }
  let t :=
    t.withJournal
      { t.journal with entries := t.journal.entries.map fun e => { e with heldTags := [] }, stallStart := none }
  t.withPort { t.port with op := t.port.op.map Operation.dropTag }

/-- HOST_PORT_RESET: one assertion is one reset; a line that is asserted already is not asserted again (R61, R184). While the
cold reset pin is asserted it changes the level of the line alone (R184). -/
def execHostPortReset (s : State) : Host.Outcome State Fault Refusal :=
  .next
    (if s.coldPin then s.withHost { s.host with resetLine := true }
    else if s.host.resetLine then s.prompt
    else s.prompt.hostPortReset)

/-- HOST_PORT_RESET_RELEASE: acceptance resumes (R61). The line is an input, so its level changes also while the cold reset
pin is asserted. -/
def execHostPortResetRelease (s : State) : Host.Outcome State Fault Refusal :=
  .next (s.prompt.withHost { s.prompt.host with resetLine := false })

/-- STALL_EXPIRY: overflow suspension, if the stall has expired (R33, R34). -/
def execStallExpiry (s : State) : Host.Outcome State Fault Refusal := .next (s.take State.expireStall)

/-- HOLD_EXPIRY: the held record of the tag expires, if it has reached age tHELD (R54). -/
def execHoldExpiry (tag : Tag) (s : State) : Host.Outcome State Fault Refusal :=
  .next (s.take fun s => s.expireHold tag)

end Sys2Proof.Machine
end

