-- ==== Sys2Proof/Machine/Link.lean ====
section
/-! DEFINITION. The commands of the Link Controller: LANE_SIGNAL_CHANGE, DAMAGED_FRAME, RECEIVE_HELLO, RECEIVE_TEST_FRAME,
FRAME_END, HELLO_REPEAT, SILENCE_EXPIRY, TEST_FRAME_RETURN, and the start of the loopback test. -/

namespace Sys2Proof.Machine

/-- The signal has become ABSENT: HAIL passes to DOWN, UP takes link loss, DOWN and CLASH stay (R95). -/
def State.signalLost (s : State) : State :=
  match s.link.state with
  | .down => s
  | .hail => s.leaveLink
  | .up => s.linkLoss .link
  | .clash => s

/-- LANE_SIGNAL_CHANGE: the verdict is recorded and acted on by the link state (R95). A verdict equal to the recorded one
is no change. Entry to HAIL from DOWN is part of `settle` (R103). The detector is followed from the end of cold reset on. -/
def execLaneSignalChange (signal : LaneSignal) (s : State) : Host.Outcome State Fault Refusal :=
  .next
    (s.take fun s =>
      if signal = s.link.signal then s
      else
        let t := s.withLink { s.link with signal := signal }
        (match signal with
          | .absent => t.signalLost
          | .present => t).settle)

/-- DAMAGED_FRAME: discarded and counted; on a SINK in UP the receive checker is told (R99, R135). The bytes are not
used. -/
def execDamagedFrame (_bytes : List Byte) (s : State) : Host.Outcome State Fault Refusal :=
  .next
    (s.take fun s =>
      if s.receives then
        let t := s.count fun c => { c with damagedFrames := countUp c.damagedFrames }
        if t.toChecker then (t.withRx (t.rx.placeNak .damaged)).settle else t
      else s)

/-- A HELLO received in UP other than HELLO(SINK) at a SINK: link loss, re-entry to HAIL, and the HELLO acted on there
(R106). A HELLO(SINK) that carries exactly the epoch the SOURCE has just advanced to takes it UP, as R104 against the new
epoch says; R106 step 3 says that a HELLO(SINK) fails the epoch test there: the model's choice, log 32. -/
def State.upHello (s : State) (h : Hello) : State :=
  let t := (s.linkLoss .link).enterHail
  if t.link.state = .hail then t.hailHello h else t

/-- The HELLO is from a SINK. -/
def helloFromSink : Hello → Bool
  | .source _ _ => false
  | .sink _ => true

/-- RECEIVE_HELLO: by the link state and role (R100, R104, R105, R106). -/
def execReceiveHello (h : Hello) (s : State) : Host.Outcome State Fault Refusal :=
  .next
    (s.take fun s =>
      if s.receives then
        match s.link.state with
        | .down => s
        | .hail => (s.hailHello h).settle
        | .up => if s.role = .sink ∧ helloFromSink h = true then s.noteReceipt else (s.noteReceipt.upHello h).settle
        | .clash => s
      else s)

/-- RECEIVE_TEST_FRAME: discarded wherever it arrives; in UP it restarts the silence timer (R100). -/
def execReceiveTestFrame (_pattern : BitVec 16) (_payload : LineData) (s : State) : Host.Outcome State Fault Refusal :=
  .next (s.take fun s => if s.receives then s.noteReceipt else s)

/-- FRAME_END: the lane becomes free, and the next frame is chosen under the state in force (R94, R118, R147). -/
def execFrameEnd (s : State) : Host.Outcome State Fault Refusal :=
  .next
    (s.take fun s =>
      match s.link.lane with
      | none => s
      | some _ => (s.withLink { s.link with lane := none }).settleWith true)

/-- HELLO_REPEAT: another HELLO becomes owed, if tHAIL has passed since the last one in HAIL (R103). -/
def execHelloRepeat (s : State) : Host.Outcome State Fault Refusal := .next (s.take State.repeatHello)

/-- SILENCE_EXPIRY: link loss, if no good frame has arrived in UP for tQUIET (R109). -/
def execSilenceExpiry (s : State) : Host.Outcome State Fault Refusal := .next (s.take State.expireSilence)

/-- The next TEST frame goes into the internal loop, unless the sent count equals N (R114). -/
def TestRecord.sendNext (t : TestRecord) : TestRecord :=
  if t.sent = t.requested then { t with inLoop := none } else { t with inLoop := some t.sent, sent := t.sent + 1 }

/-- The test record at an accepted LINK_TEST of `n` frames (R113), with the first frame in the loop (R114). -/
def TestRecord.start (n : BitVec 16) : TestRecord :=
  { TestRecord.reset with running := true, requested := n }.sendNext

/-- The returned frame counts as good: it passes the check, is a TEST frame, and carries the pattern number and payload
of the frame sent (R114). -/
def testFrameGood (k : BitVec 16) (bytes : List Byte) : Bool :=
  match Frame.ofBytes bytes with
  | some (.test p d) => p == k && d == testPayload k
  | _ => false

/-- The returned frame is counted as good or damaged (R114). -/
def TestRecord.countReturn (t : TestRecord) (good : Bool) : TestRecord :=
  if good then { t with good := t.good + 1 } else { t with damaged := t.damaged + 1 }

/-- TEST_FRAME_RETURN: the frame in the loop is checked and counted; the next one is sent, or after pattern number N - 1
the test completes and TEST_DONE is raised (R114). With no frame in the loop nothing returns. -/
def execTestFrameReturn (bytes : List Byte) (s : State) : Host.Outcome State Fault Refusal :=
  .next
    (s.take fun s =>
      match s.link.test.inLoop with
      | none => s
      | some k =>
        let t := s.link.test.countReturn (testFrameGood k bytes)
        if k + 1 = t.requested then
          (s.withLink { s.link with test := { t with running := false, outcome := .complete, inLoop := none } }).raise
            .testDone
        else s.withLink { s.link with test := t.sendNext })

end Sys2Proof.Machine
end

