-- ==== Sys2Proof/Machine/MemPort.lean ====
section
/-! DEFINITION. The commands of the Memory Port and Port Arbiter: PORT_GRANT and MEMORY_COMPLETION. -/

namespace Sys2Proof.Machine

/-- PORT_GRANT: the arbiter makes the grant that is due, after an examination of the apply head that is still due (R69, R70,
R140). While the cold reset pin is asserted the port starts no operation (R184). -/
def execPortGrant (s : State) : Host.Outcome State Fault Refusal := .next s.prompt

/-! ### Completions -/

/-- The port becomes idle (R64). -/
def State.idlePort (s : State) : State := s.withPort { s.port with op := none }

/-- A host request on the port is answered, unless its tag was dropped (R61, R65). -/
def State.answerPort (s : State) (tag : Option Tag) (status : HostStatus) (data : Option ReadData) : State :=
  match tag with
  | none => s
  | some t => s.answer t status data

/-- A host read completes (R49). -/
def State.completeRead (s : State) (tag : Option Tag) (c : Completion) : State :=
  match c with
  | .ok data poison =>
    s.answerPort tag (if poison then .poisoned else .okay) (some { bytes := data, parity := parityOf data })
  | .error => s.answerPort tag .memoryError none

/-- The status of a host write that is answered at its completion and did not lose a HELD commitment (R50). -/
def writeStatus (poisoned : Bool) (c : Completion) : HostStatus :=
  match c with
  | .error => .memoryError
  | .ok _ _ => if poisoned then .poisoned else .okay

/-- The completion is OK. -/
def completionOk : Completion → Bool
  | .ok _ _ => true
  | .error => false

/-- The captured write's entry, open and still in the journal (R28, R29). -/
def JournalEntry.carries (e : JournalEntry) (seq : Seq) : Bool := e.seq == seq && e.isOpen

/-- The entry closed at the completion of its write: poison on ERROR, the tag of a held write at the end of its list
(R28). -/
def JournalEntry.close (e : JournalEntry) (ok : Bool) (tag : Option Tag) : JournalEntry :=
  { e with isOpen := false, poison := e.poison || !ok, heldTags := e.heldTags ++ tag.toList }

/-- The entry that carries the captured write is closed, if it is still in the journal (R28, R29). -/
def State.closeEntry (s : State) (seq : Seq) (ok : Bool) (tag : Option Tag) : State :=
  s.withEntries (s.journal.entries.map fun e => if e.carries seq then e.close ok tag else e)

/-- A captured write completes (R28, R29, R50, R51). -/
def State.completeCapture (s : State) (tag : Option Tag) (cls : CommitClass) (seq : Seq) (poisoned : Bool)
    (c : Completion) : State :=
  if cls = .held ∧ (completionOk c) = true ∧ poisoned = false then
    match tag with
    | none => s.closeEntry seq true none
    | some t =>
      if s.journal.entries.any (·.carries seq) then
        let u := s.closeEntry seq true (some t)
        u.withHost { u.host with held := u.host.held ++ [{ tag := t, seq := seq, start := s.time }] }
      else s.answer t .unmirrored none
  else (s.closeEntry seq (completionOk c) none).answerPort tag (writeStatus poisoned c) none

/-- A host operation completes (R49, R50, R65). -/
def State.completeHost (s : State) (o : Operation) (tag : Option Tag) (grant : HostGrant) (c : Completion) : State :=
  match o.access with
  | .read => s.completeRead tag c
  | .write _ _ poisoned =>
    match grant with
    | .read => s.answerPort tag (writeStatus poisoned c) none
    | .pass => s.answerPort tag (writeStatus poisoned c) none
    | .track => s.answerPort tag (writeStatus poisoned c) none
    | .capture cls seq => s.completeCapture tag cls seq poisoned c

/-- The SWEEP entry offered for a line read for window `w` (R30, R86): 64 bytes of zero, poisoned, on ERROR. -/
def State.sweepEntry (s : State) (w : WinIdx) (line : Line) (c : Completion) : JournalEntry where
  seq := 0
  kind := .sweep
  window := w
  localLine := line
  target := s.windows[w].translate line
  mask := fullMask
  data :=
    match c with
    | .ok data _ => data
    | .error => Vector.replicate 64 0
  poison :=
    match c with
    | .ok _ poison => poison
    | .error => true
  heldTags := []
  sent := false
  reported := false
  everSent := false
  isOpen := false

/-- The position moves on after the SWEEP entry of a current read was taken: the next line, or after line 1023 the
granule leaves the dirty set, the position is given up, and the R12 test is made (R86). -/
def State.advanceSweep (s : State) (w : WinIdx) : State :=
  match s.sweep.position with
  | none => s
  | some p =>
    if p.nextLine = 1023 then
      ((s.withDirty (s.dirty.filter (· != p.granule))).withSweep { s.sweep with position := none }).sweepTest w
    else s.withSweep { s.sweep with position := some { p with nextLine := p.nextLine + 1 } }

/-- A sweep read that no warm reset overtook completes: a MEMORY_ERROR completion records the fault (R86, R87); the
journal takes the offered entry if the window is SWEEPING and the line lies in its local range (R30); a current read
moves the position on (R86), one that is not current moves nothing (R87). -/
def State.completeSweep (s : State) (w : WinIdx) (line : Line) (current : Bool) (c : Completion) : State :=
  let t := if (completionOk c) then s else s.offerFault .memoryError (some w) (some line) none none
  if s.windows[w].state = .sweeping ∧ s.windows[w].localHas line.granule = true then
    let u := t.withJournal (t.journal.append (s.sweepEntry w line c))
    if current then u.advanceSweep w else u
  else t

/-- An apply write that no warm reset overtook completes: the entry is finished, with an APPLY fault on ERROR (R141), the
next head is examined in the same step, and a queue found empty ends a drain (R142). -/
def State.completeApply (s : State) (e : ApplyEntry) (window : Option WinIdx) (c : Completion) : State :=
  (s.finishEntry e (if (completionOk c) then .written else .fault .apply window)).examine.drainCheck

/-- The owner acts on the result of the operation (R65). The result of a sweep or apply operation overtaken by a warm
reset is discarded (R75). -/
def State.completeFor (s : State) (o : Operation) (c : Completion) : State :=
  match o.owner with
  | .host tag grant => s.completeHost o tag grant c
  | .sweep w discarded =>
    let current := (s.sweep.inFlight.map SweepRead.current).getD false
    let t := s.withSweep { s.sweep with inFlight := none }
    if discarded then t else t.completeSweep w o.line current c
  | .apply e window discarded => if discarded then s else s.completeApply e window c

/-- MEMORY_COMPLETION: the owner acts and the port becomes idle; at an idle port the completion is ignored (R65). -/
def execMemoryCompletion (c : Completion) (s : State) : Host.Outcome State Fault Refusal :=
  .next
    (s.take fun s =>
      match s.port.op with
      | none => s
      | some o => (s.idlePort.completeFor o c).settle)

end Sys2Proof.Machine
end

