-- ==== Sys2Proof/Machine/Windows.lean ====
section
/-! DEFINITION. The service commands on windows: SET_WINDOW, GET_WINDOW, ENABLE_WINDOW, DISABLE_WINDOW, START_SWEEP and
PAUSE_WINDOW; and what every service command has in common (R168). -/

namespace Sys2Proof.Machine

/-- A service command whose argument length is not the one of its code is REFUSED VALUE (R168); otherwise it is taken. While
the cold reset pin is asserted it is lost (R182). -/
def State.takeCommand (s : State) (echo code : Byte) (args : List Byte) (taken : State → State) : State :=
  s.take fun s => if args.length = argumentLength code.toNat then taken s else s.refuse echo code .value

/-! ### SET_WINDOW -/

/-- The range of `size` granules from `base` leaves the granules 0 to 16777215 (R4, checks 4 and 5). -/
def rangeOutOfBounds (base size : Nat) : Bool := Config.granuleMax < base || Config.granuleMax < base + size - 1

/-- The record with its five programmed fields written (R4). -/
def Window.program (x : Window) (a : SetWindowArgs) (kind : WindowKind) (cls : CommitClass) : Window :=
  { x with localBase := a.localBase, size := a.size, remoteBase := a.remoteBase, kind := kind, cls := cls }

/-- SET_WINDOW: the five checks of R4 in their order. -/
def State.setWindow (s : State) (echo : Byte) (a : SetWindowArgs) : State :=
  match windowArg a.window with
  | none => s.refuse echo 2 .value
  | some w =>
    if s.windows[w].enabled then s.reply echo 2 .busy .noReason []
    else
      match windowKindArg a.kind, commitClassArg a.cls with
      | some kind, some cls =>
        if a.size = 0 ∨ Config.windowLimit < a.size then s.refuse echo 2 .value
        else if rangeOutOfBounds a.localBase a.size then s.refuse echo 2 .bounds
        else if rangeOutOfBounds a.remoteBase a.size then s.refuse echo 2 .bounds
        else (s.updateWindow w fun x => x.program a kind cls).replyDone echo 2 []
      | none, _ => s.refuse echo 2 .value
      | some _, none => s.refuse echo 2 .value

/-- SET_WINDOW (R4). -/
def execSetWindow (echo : Byte) (args : List Byte) (s : State) : Host.Outcome State Fault Refusal :=
  .next (s.takeCommand echo 2 args fun s => s.setWindow echo (setWindowArgs args))

/-! ### GET_WINDOW -/

/-- The byte of a window kind (R170). -/
def WindowKind.byte : WindowKind → Byte
  | .mirror => 0
  | .marker => 1

/-- The byte of a commit class (R170). -/
def CommitClass.byte : CommitClass → Byte
  | .posted => 0
  | .held => 1

/-- The byte of a window state (R170). -/
def WindowState.byte : WindowState → Byte
  | .off => 0
  | .suspended => 1
  | .sweeping => 2
  | .mirroring => 3

/-- The byte of a suspend cause (R170). -/
def SuspendCause.byte : SuspendCause → Byte
  | .enabled => 0
  | .link => 1
  | .overflow => 2
  | .partner => 3
  | .missingReport => 4
  | .paused => 5
  | .role => 6
  | .restart => 7

/-- The results of GET_WINDOW (R8, R170). -/
def State.windowBytes (s : State) (w : WinIdx) : List Byte :=
  let x := s.windows[w]
  beBytes 4 x.localBase ++ beBytes 4 x.size ++ beBytes 4 x.remoteBase ++
    [x.kind.byte, x.cls.byte, boolByte x.enabled, x.state.byte, x.cause.byte] ++ beBytes 4 (s.dirtyCount w)

/-- GET_WINDOW (R8). -/
def execGetWindow (echo : Byte) (args : List Byte) (s : State) : Host.Outcome State Fault Refusal :=
  .next
    (s.takeCommand echo 3 args fun s =>
      match windowArg (argNat args 0 1) with
      | none => s.refuse echo 3 .value
      | some w => s.replyDone echo 3 (s.windowBytes w))

/-! ### ENABLE_WINDOW -/

/-- The window shares a local granule with another enabled window's local range, or a remote granule with another's
remote range (R5, check 4). -/
def State.overlaps (s : State) (w : WinIdx) : Bool :=
  let x := s.windows[w]
  allWindows.any fun v =>
    v != w && s.windows[v].enabled &&
      (rangesShare x.localBase x.size s.windows[v].localBase s.windows[v].size ||
        rangesShare x.remoteBase x.size s.windows[v].remoteBase s.windows[v].size)

/-- The sum of the sizes of the enabled windows (R5, check 5). -/
def State.enabledTotal (s : State) : Nat :=
  (allWindows.map fun v => if s.windows[v].enabled then s.windows[v].size else 0).sum

/-- An accepted ENABLE_WINDOW, by the role in force (R6). -/
def State.enableWindow (s : State) (w : WinIdx) : State :=
  if s.role = .source ∨ s.role = .isolated then (s.updateWindow w fun x => x.suspend .enabled).markWindow w
  else s.updateWindow w fun x => x.suspend .role

/-- ENABLE_WINDOW: the five checks of R5 in their order. The head of the host queue and the apply head see the window
enabled at once (R11, R140). -/
def State.tryEnable (s : State) (echo : Byte) (n : Nat) : State :=
  match windowArg n with
  | none => s.refuse echo 4 .value
  | some w =>
    if s.windows[w].enabled then s.replyDone echo 4 []
    else if s.windows[w].size = 0 then s.refuse echo 4 .value
    else if s.overlaps w then s.refuse echo 4 .overlap
    else if Config.windowLimit < s.enabledTotal + s.windows[w].size then s.refuse echo 4 .limit
    else (s.enableWindow w).settle.replyDone echo 4 []

/-- ENABLE_WINDOW (R5, R6). -/
def execEnableWindow (echo : Byte) (args : List Byte) (s : State) : Host.Outcome State Fault Refusal :=
  .next (s.takeCommand echo 4 args fun s => s.tryEnable echo (argNat args 0 1))

/-! ### DISABLE_WINDOW -/

/-- DISABLE_WINDOW on an enabled window: its granules leave the dirty set, the engine drops its position there, and the
window becomes OFF with its cause kept (R7). -/
def State.disableWindow (s : State) (w : WinIdx) : State :=
  let t := s.withDirty (removeRange s.windows[w].localBase s.windows[w].size s.dirty)
  (t.dropPositionIn w).updateWindow w fun x => { x with state := .off }

/-- DISABLE_WINDOW (R7). -/
def execDisableWindow (echo : Byte) (args : List Byte) (s : State) : Host.Outcome State Fault Refusal :=
  .next
    (s.takeCommand echo 5 args fun s =>
      match windowArg (argNat args 0 1) with
      | none => s.refuse echo 5 .value
      | some w =>
        if s.windows[w].enabled then (s.disableWindow w).settle.replyDone echo 5 [] else s.replyDone echo 5 [])

/-! ### START_SWEEP -/

/-- An accepted START_SWEEP, in the order of R82; part 4 is in `settle` (R84). -/
def State.startSweep (s : State) (w : WinIdx) (full : Bool) : State :=
  let t := if full then s.markWindow w else s
  (t.updateWindow w fun x => { x with state := .sweeping }).sweepTest w

/-- START_SWEEP: the six checks of R81 in their order. -/
def State.tryStartSweep (s : State) (echo : Byte) (n scope : Nat) : State :=
  match windowArg n, boolArg scope with
  | some w, some full =>
    if s.role ≠ .source then s.refuse echo 6 .role
    else if s.link.state ≠ .up then s.refuse echo 6 .link
    else
      match s.windows[w].state with
      | .off => s.refuse echo 6 .state
      | .sweeping => s.replyDone echo 6 []
      | .mirroring => s.replyDone echo 6 []
      | .suspended => (s.startSweep w full).settle.replyDone echo 6 []
  | none, _ => s.refuse echo 6 .value
  | some _, none => s.refuse echo 6 .value

/-- START_SWEEP (R81, R82). -/
def execStartSweep (echo : Byte) (args : List Byte) (s : State) : Host.Outcome State Fault Refusal :=
  .next (s.takeCommand echo 6 args fun s => s.tryStartSweep echo (argNat args 0 1) (argNat args 1 1))

/-! ### PAUSE_WINDOW -/

/-- PAUSE_WINDOW (R14). -/
def State.tryPause (s : State) (echo : Byte) (n : Nat) : State :=
  match windowArg n with
  | none => s.refuse echo 7 .value
  | some w =>
    match s.windows[w].state with
    | .off => s.refuse echo 7 .state
    | .suspended => s.replyDone echo 7 []
    | .sweeping => (s.suspendWindow w .paused).settle.replyDone echo 7 []
    | .mirroring => (s.suspendWindow w .paused).settle.replyDone echo 7 []

/-- PAUSE_WINDOW (R14). -/
def execPauseWindow (echo : Byte) (args : List Byte) (s : State) : Host.Outcome State Fault Refusal :=
  .next (s.takeCommand echo 7 args fun s => s.tryPause echo (argNat args 0 1))

end Sys2Proof.Machine
end

