-- ==== Sys2Proof/Machine/Resets.lean ====
section
/-! DEFINITION. The resets of the whole block: COLD_RESET (R182) and RESTART, the warm reset (R181). -/

namespace Sys2Proof.Machine

/-- Every block at its cold reset values (R164, R182). The lane signal state and the host port reset line are inputs and
keep their levels, the responses given before stay given, and the model's own fields stay. The level of the cold reset
pin becomes `pin`. -/
def State.cold (s : State) (pin : Bool) : State :=
  { State.reset with
    host := { State.reset.host with resetLine := s.host.resetLine, responses := s.host.responses }
    link := { State.reset.link with signal := s.link.signal }
    pending := s.pending
    freeCount := s.freeCount
    coldPin := pin }

/-- COLD_RESET. From the assertion of the pin on every block holds its cold reset values; at the release it holds them
still, the lane signal state is the detector's verdict, and the unit begins to act (R95, R182, R184). A pin that is not
asserted cannot be released (assumption log 10 and 14). -/
def execColdReset (edge : ColdPinEdge) (s : State) : Host.Outcome State Fault Refusal :=
  .next
    (match edge with
    | .asserted => s.prompt.cold true
    | .released signal =>
      if s.coldPin then (s.cold false).withLink { (s.cold false).link with signal := signal } else s.prompt)

/-- The operation on the port is overtaken by a warm reset: the results of a sweep or apply operation are discarded, a
host operation completes as granted (R75). -/
def Operation.overtake (o : Operation) : Operation :=
  match o.owner with
  | .host _ _ => o
  | .sweep w _ => { o with owner := .sweep w true }
  | .apply e w _ => { o with owner := .apply e w true }

/-- The test record at a warm reset: a running test is aborted with its counts as they stand (R115). The spec says of the
frame in the loop only that it is not counted. That the loop is emptied, so that the frame does not return, is the model's
choice (assumption log 28), and so is that the sent count stays, one above the sum of the good and the damaged, where R171
says that it equals the sum while no frame is in the loop (assumption log 33). -/
def TestRecord.abort (t : TestRecord) : TestRecord :=
  if t.running then { t with running := false, outcome := .aborted, inLoop := none } else t

/-- The Link Controller at a warm reset: DOWN without link loss; epoch, signal and a frame in transmission kept (R112). -/
def Link.warm (x : Link) : Link :=
  { x with state := .down, lastReceipt := none, lastHello := none, helloDue := false, test := x.test.abort }

/-- The transmit sequencer at a warm reset (R116). -/
def Sequencer.warm : Sequencer where
  ackStart := none
  lastSend := none
  rounds := 0
  processed := 0
  confirmedMark := MarkRecord.reset

/-- The receive checker and the queues at a warm reset (R151). -/
def Receiver.warm (x : Receiver) : Receiver :=
  { x with
    nakOutstanding := false
    nakSlot := none
    ackPending := false
    replyOwed := false
    applyQueue := []
    reportQueue := []
    appliedMark := MarkRecord.reset }

/-- The effects of a warm reset on the blocks (R181), up to what follows at once and the clearing of the pending set. -/
def State.warmBlocks (s : State) : State :=
  let s := s.discard
  let s := s.withJournal { s.journal with stallStart := none }
  let s := (s.withRole .isolated).withLink s.link.warm
  let s := (s.updateWindows fun w => if w.enabled then w.suspend .restart else w).markAll
  let s := s.dropPosition
  let s := s.withPort { op := s.port.op.map Operation.overtake, passedOver := 0 }
  let s := (s.withSeq Sequencer.warm).withRx s.rx.warm
  s.withService { s.service with override := false }

/-- The warm reset: the pending set is emptied after every other effect (R181). -/
def State.warmReset (s : State) : State :=
  let s := s.warmBlocks.settle
  s.withService { s.service with events := 0 }

/-- RESTART (R181). -/
def execRestart (echo : Byte) (args : List Byte) (s : State) : Host.Outcome State Fault Refusal :=
  .next (s.takeCommand echo 19 args fun s => s.warmReset.replyDone echo 19 [])

end Sys2Proof.Machine
end

