-- ==== Sys2Proof/Machine/Roles.lean ====
section
/-! DEFINITION. The role commands: ASSUME_SOURCE, ASSUME_SINK and ISOLATE (R154). -/

namespace Sys2Proof.Machine

/-- ASSUME_SOURCE by the role in force (R154). From SINK the drain of an empty apply queue ends in the same step
(R160). -/
def State.assumeSource (s : State) (echo : Byte) : State :=
  if s.link.test.running then s.reply echo 8 .busy .noReason []
  else
    match s.role with
    | .isolated => (s.changeRole .source).replyDone echo 8 []
    | .source => s.replyDone echo 8 []
    | .sink => ((s.changeRole .draining).drainCheck).reply echo 8 .accepted .noReason []
    | .draining => s.reply echo 8 .busy .noReason []

/-- ASSUME_SOURCE (R154). -/
def execAssumeSource (echo : Byte) (args : List Byte) (s : State) : Host.Outcome State Fault Refusal :=
  .next (s.takeCommand echo 8 args fun s => s.assumeSource echo)

/-- ASSUME_SINK by the role in force (R154). On a SOURCE whose journal holds entries it is refused PENDING without force,
and discards the journal first with force (R159). -/
def State.assumeSink (s : State) (echo : Byte) (force : Bool) : State :=
  if s.link.test.running then s.reply echo 9 .busy .noReason []
  else
    match s.role with
    | .isolated => (s.changeRole .sink).replyDone echo 9 []
    | .source =>
      if s.journal.entries = [] then (s.changeRole .sink).replyDone echo 9 []
      else if force then (s.discard.changeRole .sink).replyDone echo 9 []
      else s.refuse echo 9 .pending
    | .sink => s.replyDone echo 9 []
    | .draining => s.reply echo 9 .busy .noReason []

/-- ASSUME_SINK (R154). -/
def execAssumeSink (echo : Byte) (args : List Byte) (s : State) : Host.Outcome State Fault Refusal :=
  .next
    (s.takeCommand echo 9 args fun s =>
      match boolArg (argNat args 0 1) with
      | none => s.refuse echo 9 .value
      | some force => s.assumeSink echo force)

/-- ISOLATE (R154, R157, R162): on an ISOLATED unit it changes nothing. -/
def execIsolate (echo : Byte) (args : List Byte) (s : State) : Host.Outcome State Fault Refusal :=
  .next
    (s.takeCommand echo 10 args fun s =>
      if s.role = .isolated then s.replyDone echo 10 [] else (s.changeRole .isolated).replyDone echo 10 [])

end Sys2Proof.Machine
end

