-- ==== Sys2Proof/Machine/ServicePort.lean ====
section
/-! DEFINITION. The other commands of the service port: BAD_MESSAGE, UNKNOWN_COMMAND, GET_STATUS, SET_TIMERS, SET_MASK,
READ_EVENTS, READ_FAULT, GET_MARKS, SET_OVERRIDE, GET_STATS and LINK_TEST. -/

namespace Sys2Proof.Machine

/-- BAD_MESSAGE: answered with the echo and command code bytes as received, or 0 for a message shorter than 2 bytes, and
no other effect (R168). While the cold reset pin is asserted it is lost (R182). -/
def execBadMessage (bytes : List Byte) (s : State) : Host.Outcome State Fault Refusal :=
  .next
    (s.take fun s =>
      if bytes.length < 2 then s.reply 0 0 .badMessage .noReason []
      else s.reply (bytes.getD 1 0) (bytes.getD 0 0) .badMessage .noReason [])

/-- UNKNOWN_COMMAND: answered UNKNOWN, reason none, no results (R168). While the cold reset pin is asserted it is lost
(R182). -/
def execUnknownCommand (echo code : Byte) (_args : List Byte) (s : State) : Host.Outcome State Fault Refusal :=
  .next (s.take fun s => s.reply echo code .unknown .noReason [])

/-! ### GET_STATUS -/

/-- The byte of a role (R171). -/
def Role.byte : Role → Byte
  | .isolated => 0
  | .source => 1
  | .sink => 2
  | .draining => 3

/-- The byte of a link state (R171). -/
def LinkState.byte : LinkState → Byte
  | .down => 0
  | .hail => 1
  | .up => 2
  | .clash => 3

/-- The byte of a test outcome (R171). -/
def TestOutcome.byte : TestOutcome → Byte
  | .noOutcome => 0
  | .complete => 1
  | .aborted => 2

/-- The seven bytes of the sweep position (R171). -/
def SweepEngine.bytes (x : SweepEngine) : List Byte :=
  match x.position with
  | none => List.replicate 7 0
  | some p => [1] ++ beBytes 1 p.window.val ++ beBytes 3 p.granule ++ beBytes 2 p.nextLine.toNat

/-- The eight bytes of the test record (R171). -/
def TestRecord.bytes (t : TestRecord) : List Byte :=
  [boolByte t.running, t.outcome.byte] ++ beBytes 2 t.requested.toNat ++ beBytes 2 t.good.toNat ++
    beBytes 2 t.damaged.toNat

/-- The status record (R171). -/
def State.statusBytes (s : State) : List Byte :=
  [s.role.byte, s.link.state.byte, s.link.epoch] ++ beBytes 2 s.journal.entries.length ++
    beBytes 1 s.journal.sentCount ++ beBytes 1 s.rx.applyQueue.length ++ beBytes 4 s.dirty.length ++ s.sweep.bytes ++
    [boolByte s.service.override, boolByte s.service.overrun] ++ beBytes 2 s.service.events.toNat ++
    s.link.test.bytes ++ beBytes 4 s.time.toNat

/-- GET_STATUS (R171). -/
def execGetStatus (echo : Byte) (args : List Byte) (s : State) : Host.Outcome State Fault Refusal :=
  .next (s.takeCommand echo 1 args fun s => s.replyDone echo 1 s.statusBytes)

/-! ### SET_TIMERS -/

/-- The six settings replaced together (R173). -/
def State.withTimers (s : State) (t : Timers) : State := s.withService { s.service with timers := t }

/-- SET_TIMERS: the checks of R173 in their order; the new settings act at once, and a timer whose elapsed time already
reaches its new setting expires in this step. The settings in force stand in the results, also of a refusal. -/
def State.setTimers (s : State) (echo : Byte) (t : Timers) : State :=
  if t.inRange = false then s.reply echo 11 .refused .value s.service.timers.bytes
  else if t.ordered = false then s.reply echo 11 .refused .order s.service.timers.bytes
  else if t = s.service.timers then s.replyDone echo 11 t.bytes
  else (s.withTimers t).expireDueTimers.replyDone echo 11 t.bytes

/-- SET_TIMERS (R173). -/
def execSetTimers (echo : Byte) (args : List Byte) (s : State) : Host.Outcome State Fault Refusal :=
  .next (s.takeCommand echo 11 args fun s => s.setTimers echo (timersArgs args))

/-! ### Events, faults, marks, override, statistics -/

/-- SET_MASK: the mask is replaced; bits 14 and 15 of the argument are not examined (R174, R176). -/
def execSetMask (echo : Byte) (args : List Byte) (s : State) : Host.Outcome State Fault Refusal :=
  .next
    (s.takeCommand echo 12 args fun s =>
      (s.withService { s.service with mask := BitVec.ofNat 14 (argNat args 0 2) }).replyDone echo 12
        (beBytes 2 (BitVec.ofNat 14 (argNat args 0 2)).toNat))

/-- READ_EVENTS: the pending set is returned and emptied (R175). -/
def execReadEvents (echo : Byte) (args : List Byte) (s : State) : Host.Outcome State Fault Refusal :=
  .next
    (s.takeCommand echo 13 args fun s =>
      (s.withService { s.service with events := 0 }).replyDone echo 13 (beBytes 2 s.service.events.toNat))

/-- READ_FAULT: the oldest record is removed and returned with the overrun flag and the number remaining; the flag is
cleared with the last record. An empty list answers REFUSED EMPTY, with results (R178). -/
def State.readFault (s : State) (echo : Byte) : State :=
  match s.service.faults with
  | [] => s.reply echo 14 .refused .empty (List.replicate 16 0 ++ [boolByte s.service.overrun, 0])
  | r :: rest =>
    (s.withService
        { s.service with faults := rest, overrun := if rest = [] then false else s.service.overrun }).replyDone
      echo 14 (r.bytes ++ [boolByte s.service.overrun] ++ beBytes 1 rest.length)

/-- READ_FAULT (R178). -/
def execReadFault (echo : Byte) (args : List Byte) (s : State) : Host.Outcome State Fault Refusal :=
  .next (s.takeCommand echo 14 args fun s => s.readFault echo)

/-- GET_MARKS: the confirmed-mark record and the applied-mark record (R180). -/
def execGetMarks (echo : Byte) (args : List Byte) (s : State) : Host.Outcome State Fault Refusal :=
  .next
    (s.takeCommand echo 15 args fun s =>
      s.replyDone echo 15 (s.seq.confirmedMark.confirmedBytes ++ s.rx.appliedMark.bytes))

/-- SET_OVERRIDE: a setting byte other than 0 or 1 is refused VALUE; the value in force changes nothing; a change acts
at once on the head of the host queue (R57, R180). -/
def State.setOverride (s : State) (echo : Byte) (setting : Option Bool) : State :=
  match setting with
  | none => s.refuse echo 16 .value
  | some v =>
    if v = s.service.override then s.replyDone echo 16 []
    else (s.withService { s.service with override := v }).settle.replyDone echo 16 []

/-- SET_OVERRIDE (R180). -/
def execSetOverride (echo : Byte) (args : List Byte) (s : State) : Host.Outcome State Fault Refusal :=
  .next (s.takeCommand echo 16 args fun s => s.setOverride echo (boolArg (argNat args 0 1)))

/-- GET_STATS (R179). -/
def execGetStats (echo : Byte) (args : List Byte) (s : State) : Host.Outcome State Fault Refusal :=
  .next (s.takeCommand echo 17 args fun s => s.replyDone echo 17 s.service.stats.bytes)

/-! ### LINK_TEST -/

/-- LINK_TEST: the checks of R113 in their order; an accepted test begins with its first frame in the loop (R114). A frame
begun before stays on the outbound lane to its end, as R94 says, where 06 section 6.8 says that the lane carries idle fill
throughout the test: the model's choice, assumption log 34. -/
def State.linkTest (s : State) (echo : Byte) (n : Nat) : State :=
  if n = 0 then s.refuse echo 18 .value
  else if s.role ≠ .isolated then s.refuse echo 18 .role
  else if s.link.test.running then s.reply echo 18 .busy .noReason []
  else (s.withLink { s.link with test := TestRecord.start (BitVec.ofNat 16 n) }).reply echo 18 .accepted .noReason []

/-- LINK_TEST (R113). -/
def execLinkTest (echo : Byte) (args : List Byte) (s : State) : Host.Outcome State Fault Refusal :=
  .next (s.takeCommand echo 18 args fun s => s.linkTest echo (argNat args 0 2))

end Sys2Proof.Machine
end

