-- ==== Sys2Proof/Machine/Source.lean ====
section
/-! DEFINITION. The commands of the transmit sequencer: RECEIVE_ACK, RECEIVE_NAK, RECEIVE_REPORT, ACK_TIMER_EXPIRY and
PROBE_IDLE_EXPIRY. -/

namespace Sys2Proof.Machine

/-- The position of a received sequence number; IN FLIGHT carries the index of its entry (R117). -/
inductive SeqPosition where
  | old
  | inFlight (index : Nat)
  | atSend
  | waiting
  | beyond
  deriving DecidableEq, Repr

/-- The first position of the table of R117 that fits. -/
def Journal.place (j : Journal) (q : Seq) : SeqPosition :=
  if seqBehind q j.headPosition then .old
  else
    match j.entries.findIdx? fun e => e.sent && e.seq == q with
    | some k => .inFlight k
    | none =>
      if q = j.sendPosition then .atSend
      else if j.entries.any fun e => !e.sent && e.seq == q then .waiting
      else .beyond

/-- A bogus ACK or NAK naming `q`: fault BOGUS_ACK and link loss (R123). -/
def State.bogus (s : State) (q : Seq) : State :=
  (s.offerFault .bogusAck none none (some q) (some s.link.epoch)).linkLoss .link

/-- The fault-count reconciliation of an ACK with apply-fault count `f` and last-applied `q` (R128, R16). -/
def State.reconcile (s : State) (f q : Seq) : State :=
  if seqAhead f s.seq.processed then
    let t := (s.suspendWhere Window.enabled .missingReport).markAll
    let t := t.withSeq { t.seq with processed := f }
    (t.offerFault .missingReport none none (some q) (some t.link.epoch)).raise .partnerFault
  else s

/-- An ACK that makes progress through the entry at index `k` (R126, steps 1 to 3). -/
def State.progress (s : State) (k : Nat) : State :=
  let t := State.acknowledge (k + 1) s
  t.withSeq
    { t.seq with rounds := 0, ackStart := if t.journal.sentCount = 0 then none else some t.time }

/-- An ACK of the present epoch, by the position of its last-applied sequence (R125). -/
def State.takeAck (s : State) (q f : Seq) : State :=
  match s.journal.place q with
  | .old => s.reconcile f q
  | .inFlight k => (s.progress k).reconcile f q
  | .atSend => s.bogus q
  | .waiting => s.bogus q
  | .beyond => s.bogus q

/-- RECEIVE_ACK (R100, R125). -/
def execReceiveAck (epoch : Epoch) (lastApplied faults : Seq) (s : State) : Host.Outcome State Fault Refusal :=
  .next
    (s.take fun s =>
      if s.receives then
        let t := s.noteReceipt
        if t.toSequencer ∧ epoch = t.link.epoch then (t.takeAck lastApplied faults).settle else t
      else s)

/-- A NAK of the present epoch, by the position of its expected sequence (R121). -/
def State.takeNak (s : State) (q : Seq) : State :=
  match s.journal.place q with
  | .inFlight k => s.askRewind k
  | .atSend => s
  | .old => s.bogus q
  | .waiting => s.bogus q
  | .beyond => s.bogus q

/-- RECEIVE_NAK (R100, R121). The reason makes no difference and is not recorded. -/
def execReceiveNak (epoch : Epoch) (expected : Seq) (_reason : NakReason) (s : State) :
    Host.Outcome State Fault Refusal :=
  .next
    (s.take fun s =>
      if s.receives then
        let t := s.noteReceipt
        if t.toSequencer ∧ epoch = t.link.epoch then (t.takeNak expected).settle else t
      else s)

/-- The affected window and granule of a REPORT (R15): of the entry's local line if the journal holds the sequence, else
of the target line by reverse translation. For an entry of the journal that was never sent the rules differ: R15 and R129
step 2 take its local line, R129's last paragraph the reverse translation. That its local line is taken is the model's
choice (assumption log 31). -/
def State.reportAffects (s : State) (r : Report) : Option (WinIdx × Nat) :=
  match s.journal.entries.find? fun e => e.seq == r.seq with
  | some e => (s.owner e.localLine.granule).map fun w => (w, e.localLine.granule)
  | none => (s.remoteOwner r.target.granule).map fun w => (w, (s.windows[w].untranslate r.target).granule)

/-- The entry with the sequence becomes reported (R36). That an entry never sent does so too, as R36 and R130 say without
condition where R129 step 1 names only a SENT entry and a rewound one, is the model's choice (assumption log 31). -/
def State.markReported (s : State) (q : Seq) : State :=
  s.withEntries (s.journal.entries.map fun e => if e.seq = q then { e with reported := true } else e)

/-- The window part of a REPORT (R15). -/
def State.reportWindow (s : State) (affected : Option (WinIdx × Nat)) : State :=
  match affected with
  | none => s
  | some (w, g) => (s.suspendWindow w .partner).markDirty w g

/-- A REPORT of the present epoch, in the order of R129. -/
def State.takeReport (s : State) (r : Report) : State :=
  let affected := s.reportAffects r
  let t := (s.markReported r.seq).reportWindow affected
  let t := t.withSeq { t.seq with processed := t.seq.processed + 1 }
  (t.offerFault .partnerReport (affected.map Prod.fst) (some r.target) (some r.seq) (some t.link.epoch)).raise
    .partnerFault

/-- RECEIVE_REPORT (R100, R129). -/
def execReceiveReport (r : Report) (s : State) : Host.Outcome State Fault Refusal :=
  .next
    (s.take fun s =>
      if s.receives then
        let t := s.noteReceipt
        if t.toSequencer ∧ r.epoch = t.link.epoch then (t.takeReport r).settle else t
      else s)

/-- ACK_TIMER_EXPIRY: a rewind to the head is asked for, if the acknowledgment timer is due (R120). -/
def execAckTimerExpiry (s : State) : Host.Outcome State Fault Refusal := .next (s.take State.expireAck)

/-- PROBE_IDLE_EXPIRY: a PROBE is sent, if no frame has begun for tPROBE and no data frame can be sent (R119). -/
def execProbeIdleExpiry (s : State) : Host.Outcome State Fault Refusal := .next (s.take State.expireProbe)

end Sys2Proof.Machine
end

