-- ==== Sys2Proof/Machine/Dispatch.lean ====
section
/-! DEFINITION. One arm for each command: a direct call of its meaning. -/

namespace Sys2Proof.Machine

def exec (i : Instr) (s : State) : Host.Outcome State Fault Refusal :=
  match i with
  | .hostRequest r => Sys2Proof.Machine.execHostRequest r s
  | .hostPortReset => Sys2Proof.Machine.execHostPortReset s
  | .coldReset edge => Sys2Proof.Machine.execColdReset edge s
  | .portGrant => Sys2Proof.Machine.execPortGrant s
  | .memoryCompletion c => Sys2Proof.Machine.execMemoryCompletion c s
  | .applyHeadExamine => Sys2Proof.Machine.execApplyHeadExamine s
  | .drainEnd => Sys2Proof.Machine.execDrainEnd s
  | .stallExpiry => Sys2Proof.Machine.execStallExpiry s
  | .holdExpiry tag => Sys2Proof.Machine.execHoldExpiry tag s
  | .ackTimerExpiry => Sys2Proof.Machine.execAckTimerExpiry s
  | .probeIdleExpiry => Sys2Proof.Machine.execProbeIdleExpiry s
  | .silenceExpiry => Sys2Proof.Machine.execSilenceExpiry s
  | .helloRepeat => Sys2Proof.Machine.execHelloRepeat s
  | .laneSignalChange signal => Sys2Proof.Machine.execLaneSignalChange signal s
  | .damagedFrame bytes => Sys2Proof.Machine.execDamagedFrame bytes s
  | .receiveHello h => Sys2Proof.Machine.execReceiveHello h s
  | .receiveDataFrame f => Sys2Proof.Machine.execReceiveDataFrame f s
  | .receiveProbe epoch => Sys2Proof.Machine.execReceiveProbe epoch s
  | .receiveAck epoch lastApplied faults => Sys2Proof.Machine.execReceiveAck epoch lastApplied faults s
  | .receiveNak epoch expected reason => Sys2Proof.Machine.execReceiveNak epoch expected reason s
  | .receiveReport r => Sys2Proof.Machine.execReceiveReport r s
  | .frameEnd => Sys2Proof.Machine.execFrameEnd s
  | .testFrameReturn bytes => Sys2Proof.Machine.execTestFrameReturn bytes s
  | .badMessage bytes => Sys2Proof.Machine.execBadMessage bytes s
  | .unknownCommand echo code args => Sys2Proof.Machine.execUnknownCommand echo code args s
  | .getStatus echo args => Sys2Proof.Machine.execGetStatus echo args s
  | .setWindow echo args => Sys2Proof.Machine.execSetWindow echo args s
  | .getWindow echo args => Sys2Proof.Machine.execGetWindow echo args s
  | .enableWindow echo args => Sys2Proof.Machine.execEnableWindow echo args s
  | .disableWindow echo args => Sys2Proof.Machine.execDisableWindow echo args s
  | .startSweep echo args => Sys2Proof.Machine.execStartSweep echo args s
  | .pauseWindow echo args => Sys2Proof.Machine.execPauseWindow echo args s
  | .assumeSource echo args => Sys2Proof.Machine.execAssumeSource echo args s
  | .assumeSink echo args => Sys2Proof.Machine.execAssumeSink echo args s
  | .isolate echo args => Sys2Proof.Machine.execIsolate echo args s
  | .setTimers echo args => Sys2Proof.Machine.execSetTimers echo args s
  | .setMask echo args => Sys2Proof.Machine.execSetMask echo args s
  | .readEvents echo args => Sys2Proof.Machine.execReadEvents echo args s
  | .readFault echo args => Sys2Proof.Machine.execReadFault echo args s
  | .getMarks echo args => Sys2Proof.Machine.execGetMarks echo args s
  | .setOverride echo args => Sys2Proof.Machine.execSetOverride echo args s
  | .getStats echo args => Sys2Proof.Machine.execGetStats echo args s
  | .linkTest echo args => Sys2Proof.Machine.execLinkTest echo args s
  | .restart echo args => Sys2Proof.Machine.execRestart echo args s
  | .hostPortResetRelease => Sys2Proof.Machine.execHostPortResetRelease s
  | .receiveTestFrame pattern payload => Sys2Proof.Machine.execReceiveTestFrame pattern payload s

end Sys2Proof.Machine
end

