-- ==== Sys2Proof/Machine/Idle.lean ====
section
/-! DEFINITION. What the unit does of itself when no command waits: the steps that are due, and the tick of the time
counter (assumption log 2 and 3). -/

namespace Sys2Proof.Machine

/-- What is due at once: the examination of the apply head, and else a grant. Each comes before every other step
(R69, R140). -/
def State.urgentSteps (s : State) : List Instr :=
  if s.examineDue then [.applyHeadExamine] else if s.grantDue then [.portGrant] else []

/-- The steps of the unit itself that are due otherwise. -/
def State.otherSteps (s : State) : List Instr :=
  (if s.role = .draining ∧ s.rx.applyQueue = [] then [.drainEnd] else []) ++
    (if s.stallDue then [.stallExpiry] else []) ++
    ((allTags.filter s.holdDue).map .holdExpiry) ++
    (if s.ackDue then [.ackTimerExpiry] else []) ++
    (if s.probeDue then [.probeIdleExpiry] else []) ++
    (if s.silenceDue then [.silenceExpiry] else []) ++
    (if s.helloRepeatDue then [.helloRepeat] else [])

/-- The steps of the unit itself of which one is taken next, while the cold reset pin is released. -/
def State.ownSteps (s : State) : List Instr := if s.urgentSteps = [] then s.otherSteps else s.urgentSteps

/-- The steps of the unit itself that are due now: none while the cold reset pin is asserted (R184). -/
def State.dueSteps (s : State) : List Instr := if s.coldPin then [] else s.ownSteps

/-- One microsecond passes: the time counter rises by one and wraps, and stands while the cold reset pin is asserted
(R183). -/
def State.tick (s : State) : State := s.unlessHeld (s.withTime (s.time + 1))

/-- The due step that is taken first. With two or more due the spec fixes no order, so the choice is a free value. -/
def State.nextDue (s : State) : Option Instr := pick (Config.freeOrder s.freeCount) s.dueSteps

/-- The state in which the chosen due step is taken: an open choice is counted. -/
def State.chosen (s : State) : State :=
  if s.dueSteps.length ≤ 1 then s else s.withFreeCount (s.freeCount + 1)

end Sys2Proof.Machine
end

