-- ==== Sys2Proof/Safety.lean ====
section
/-! DEFINITION. What must stay true of the block between steps: the invariants that the statements speak of, each from
the rules that promise it. -/

namespace Sys2Proof.Machine

/-! ### The session -/

/-- The role is SOURCE and the link is UP: the one condition under which windows capture and the journal holds entries
(R12, R22). -/
def State.inSession (s : State) : Prop := s.role = .source ∧ s.link.state = .up

/-- The role is SINK and the link is UP: the one condition under which the receive checker accepts (R134). -/
def State.sinkSession (s : State) : Prop := s.role = .sink ∧ s.link.state = .up

/-- The link states that each role admits (R101). -/
def LinkLegal (s : State) : Prop :=
  (s.link.state = .clash → s.role = .source) ∧
    (s.link.state = .hail ∨ s.link.state = .up → s.role = .source ∨ s.role = .sink)

/-- Windows capture and the journal holds entries only in session (R12, R22), and the link state is legal (R101). -/
def SessionInv (s : State) : Prop :=
  LinkLegal s ∧ (∀ w : WinIdx, s.windows[w].capturing = true → s.inSession) ∧
    (s.journal.entries ≠ [] → s.inSession)

/-- The times the Link Controller and the transmit sequencer record stand only in the state that measures them, and a
SOURCE outside DOWN has an epoch other than 0 (R102, R103, R109, R116, R120). -/
def LinkRecordInv (s : State) : Prop :=
  (s.link.lastReceipt.isSome = true ↔ s.link.state = .up) ∧
    (s.link.lastHello.isSome = true ∨ s.link.helloDue = true → s.link.state = .hail) ∧
    (s.seq.lastSend.isSome = true ↔ s.inSession) ∧
    (s.seq.ackStart.isSome = true ↔ 0 < s.journal.sentCount) ∧
    (s.role = .source → s.link.state ≠ .down → s.link.epoch ≠ 0)

/-- While the loopback test runs the role is ISOLATED and one frame is in the loop, the one sent last, with every earlier
one counted (R113, R114, R171). While it does not run the loop is empty: after its last frame has returned by R114, and
after a RESTART that aborts it by the model's choice (assumption log 28). -/
def TestInv (s : State) : Prop :=
  if s.link.test.running = true then
    s.role = .isolated ∧
      ∃ k : BitVec 16, s.link.test.inLoop = some k ∧ k.toNat + 1 = s.link.test.sent.toNat ∧
        s.link.test.good.toNat + s.link.test.damaged.toNat = k.toNat ∧
        s.link.test.sent.toNat ≤ s.link.test.requested.toNat
  else s.link.test.inLoop = none

/-- Outside a session as SINK the flags of the receive checker are clear, its slot and the report queue empty, and no
reply is owed; a NAK in the slot goes with the flag (R137, R144, R149, R150). -/
def SinkInv (s : State) : Prop :=
  (s.rx.nakSlot.isSome = true → s.rx.nakOutstanding = true) ∧
    (¬ s.sinkSession →
      s.rx.nakOutstanding = false ∧ s.rx.ackPending = false ∧ s.rx.replyOwed = false ∧ s.rx.reportQueue = [])

/-! ### The journal -/

/-- The entries carry consecutive sequence numbers, and `next` follows the last of them (R21). -/
def chained : List JournalEntry → Seq → Prop
  | [], _ => True
  | e :: l, next => e.seq + BitVec.ofNat 16 (l.length + 1) = next ∧ chained l next

/-- The operation on the port is the captured write whose entry has the sequence (R28). -/
def MemoryPort.capturing (p : MemoryPort) (q : Seq) : Prop :=
  match p.op with
  | some { access := .write .., owner := .host _ (.capture _ r), .. } => r = q
  | _ => False

/-- A sweep read is on the port. -/
def MemoryPort.sweeping (p : MemoryPort) : Prop :=
  match p.op with
  | some { owner := .sweep _ _, .. } => True
  | _ => False

/-- What holds of each entry: a SENT entry was ever sent; an open one is not SENT and its write is on the port; the mask
is nonempty; the held tags, with the one an open entry may still get, are at most 16 (R20, R23, R28). -/
def EntryInv (s : State) (e : JournalEntry) : Prop :=
  (e.sent = true → e.everSent = true) ∧ (e.isOpen = true → e.sent = false ∧ s.port.capturing e.seq) ∧ e.mask ≠ 0 ∧
    e.heldTags.length + (if e.isOpen then 1 else 0) ≤ Config.heldTagLimit

/-- The journal: at most 512 entries; consecutive sequences up to the next one; the SENT entries are the oldest, at most
32; only the tail can be open; and a sweep read on the port leaves the host reserve free (R19, R21, R23, R28, R30). -/
def JournalInv (s : State) : Prop :=
  s.journal.entries.length ≤ Config.journalSize ∧ chained s.journal.entries s.journal.nextSeq ∧
    s.journal.entries.Pairwise (fun a b => b.sent = true → a.sent = true) ∧
    s.journal.sentCount ≤ Config.inFlightLimit ∧ (∀ e ∈ s.journal.entries, EntryInv s e) ∧
    (∀ e ∈ s.journal.entries.dropLast, e.isOpen = false) ∧
    (s.port.sweeping → s.journal.entries.length + Config.hostReserve < Config.journalSize)

/-! ### Capacities -/

/-- The queues, the lists and the count keep within their capacities, and an apply write on the port has a place in the
report queue (00 Fixed capacities; R71, R138, R141, R144, R177). -/
def CapacityInv (s : State) : Prop :=
  s.rx.applyQueue.length ≤ Config.applyQueueSize ∧ s.rx.reportQueue.length ≤ Config.reportQueueSize ∧
    (s.headOnPort = true → s.rx.reportQueue.length < Config.reportQueueSize) ∧
    s.service.faults.length ≤ Config.faultListSize ∧ (s.service.overrun = true → s.service.faults ≠ []) ∧
    s.port.passedOver ≤ Config.passedOverLimit

/-- The settings in force lie in their ranges and pass the ordering check (R173). -/
def TimersInv (s : State) : Prop := s.service.timers.inRange = true ∧ s.service.timers.ordered = true

/-! ### Windows, dirty set and sweep -/

/-- One window record as R4 leaves it: its ranges lie within the granules 0 to 16777215. -/
def WindowLegal (w : Window) : Prop :=
  w.size ≤ Config.windowLimit ∧ w.localBase + w.size ≤ Config.granuleMax + 1 ∧
    w.remoteBase + w.size ≤ Config.granuleMax + 1 ∧ (w.enabled = true → 0 < w.size)

/-- The window table as R4 and R5 leave it: legal records, no shared granule among enabled windows, at most 65536 granules
in all. -/
def WindowsInv (s : State) : Prop :=
  (∀ w : WinIdx, WindowLegal s.windows[w]) ∧
    (∀ v w : WinIdx, v ≠ w → s.windows[v].enabled = true → s.windows[w].enabled = true →
      rangesShare s.windows[v].localBase s.windows[v].size s.windows[w].localBase s.windows[w].size = false ∧
        rangesShare s.windows[v].remoteBase s.windows[v].size s.windows[w].remoteBase s.windows[w].size = false) ∧
    s.enabledTotal ≤ Config.windowLimit

/-- The dirty set holds only granules of enabled windows, each once, and is empty in SINK and DRAINING (R76). -/
def DirtyInv (s : State) : Prop :=
  s.dirty.Pairwise (· < ·) ∧
    (∀ g ∈ s.dirty, ∃ w : WinIdx, s.windows[w].enabled = true ∧ s.windows[w].localHas g = true) ∧
    (s.role = .sink ∨ s.role = .draining → s.dirty = [])

/-- The position's window is SWEEPING and its granule is a dirty granule of that window; a sweep read is in flight exactly
while one is on the port; a current one is the position's; a MIRRORING window has no dirty granule and no SWEEP entry
(R12, R83, R89). -/
def SweepInv (s : State) : Prop :=
  (∀ p, s.sweep.position = some p →
      s.windows[p.window].state = .sweeping ∧ s.windows[p.window].localHas p.granule = true ∧ p.granule ∈ s.dirty) ∧
    (s.sweep.inFlight.isSome = true ↔ s.port.sweeping) ∧
    (∀ r, s.sweep.inFlight = some r → r.current = true →
      s.sweep.position = some { window := r.window, granule := r.granule, nextLine := r.line }) ∧
    (∀ w : WinIdx, s.windows[w].state = .mirroring →
      s.dirtyCount w = 0 ∧ ∀ e ∈ s.journal.entries, e.kind = .sweep → e.window ≠ w)

/-! ### Tags -/

/-- The tags of the requests in the host queue. -/
def State.queueTags (s : State) : List Tag := s.host.queue.map QueuedRequest.tag

/-- The tag of the host operation on the memory port, unless it was dropped. -/
def State.portTags (s : State) : List Tag :=
  match s.port.op with
  | some { owner := .host (some t) _, .. } => [t]
  | _ => []

/-- The tags with a record in the held-write table. -/
def State.heldTags (s : State) : List Tag := s.host.held.map HeldRecord.tag

/-- Each tag in use is in exactly one place, and the held-write table and the held-tag lists of the journal name the same
tags with the same entries (R45, R52). -/
def TagInv (s : State) : Prop :=
  s.host.tags.Pairwise (· < ·) ∧ (s.queueTags ++ s.portTags ++ s.heldTags).Perm s.host.tags ∧
    (s.journal.entries.flatMap fun e => e.heldTags.map fun t => (t, e.seq)).Perm
      (s.host.held.map fun r => (r.tag, r.seq))

/-! ### Cold reset -/

/-- Every field of every block at its cold reset value; the lane signal state, the levels of the host port reset line and
of the cold reset pin, the answers given and the model's own fields are free (R1, R18, R19, R43, R64, R76, R83, R113,
R116, R127, R133, R138, R145, R153, R182, and the table of 06, section 6.3). That the requested count is 0 is the model's
reading (assumption log 9), and that the internal loop is empty its choice (assumption log 28). -/
def ColdValues (s : State) : Prop :=
  s.host.queue = [] ∧ s.host.held = [] ∧ s.host.tags = [] ∧
    (∀ w : WinIdx, s.windows[w] =
      { localBase := 0, size := 0, remoteBase := 0, kind := .mirror, cls := .posted, state := .off, cause := .enabled }) ∧
    s.port = { op := none, passedOver := 0 } ∧
    s.journal = { entries := [], nextSeq := 0, stallStart := none } ∧ s.dirty = [] ∧
    s.sweep = { position := none, inFlight := none } ∧
    s.link =
      { state := .down, epoch := 0, signal := s.link.signal, lastReceipt := none, lastHello := none, helloDue := false
        lane := none
        test :=
          { running := false, requested := 0, sent := 0, good := 0, damaged := 0, outcome := .noOutcome
            inLoop := none } } ∧
    s.seq.ackStart = none ∧ s.seq.lastSend = none ∧ s.seq.rounds = 0 ∧ s.seq.processed = 0 ∧
    s.seq.confirmedMark = MarkRecord.reset ∧ s.rx.expected = 0 ∧ s.rx.lastApplied = 65535 ∧ s.rx.applyFaults = 0 ∧
    s.rx.nakOutstanding = false ∧ s.rx.nakSlot = none ∧ s.rx.ackPending = false ∧ s.rx.replyOwed = false ∧
    s.rx.applyQueue = [] ∧ s.rx.reportQueue = [] ∧ s.rx.appliedMark = MarkRecord.reset ∧ s.role = .isolated ∧
    s.service =
      { events := 0, mask := 0x3FFF, faults := [], overrun := false
        stats :=
          { damagedFrames := 0, rewinds := 0, overflowSuspensions := 0, holdExpiries := 0, entriesAcked := 0
            entriesApplied := 0 }
        override := false
        timers := { tAck := 50, tProbe := 200, tQuiet := 1000, tStall := 20, tHeld := 500, roundLimit := 1 }
        response := none } ∧
    s.time = 0

/-- While the cold reset pin is asserted every block holds its cold reset values, the time counter 0 among them
(R182, R183, R184; assumption log 9, 14 and 28). -/
def ColdPinInv (s : State) : Prop := s.coldPin = true → ColdValues s

/-! ### What is due at once -/

/-- The cold reset pin is released and nothing is due at once: neither the examination of the apply head would finish it nor
would the arbiter grant. Every event finds the unit so (R69, R140; assumption log 29). -/
def Ready (s : State) : Prop := s.coldPin = false ∧ s.examineDue = false ∧ s.grantDue = false

/-! ### What follows at once -/

/-- Everything the rules say happens at once has happened: nothing more follows (R33, R47, R71, R84, R103, R118, R147). -/
def Settled (s : State) : Prop := s.settle = s

/-- `t` is `u` but for the fields that `settle` can change: the host queue and tags with the answers given, the link
state with its epoch, HELLO times and lane, the states of the journal's entries and the stall start, the sequencer's two
times, the sink transmitter's flags and report queue, the sweep position and the passed-over count. -/
def SameButSettled (u t : State) : Prop :=
  t.host.held = u.host.held ∧ t.host.resetLine = u.host.resetLine ∧ t.windows = u.windows ∧ t.port.op = u.port.op ∧
    t.journal.nextSeq = u.journal.nextSeq ∧ t.dirty = u.dirty ∧ t.sweep.inFlight = u.sweep.inFlight ∧
    t.link.signal = u.link.signal ∧ t.link.lastReceipt = u.link.lastReceipt ∧ t.link.test = u.link.test ∧
    t.seq.rounds = u.seq.rounds ∧ t.seq.processed = u.seq.processed ∧ t.seq.confirmedMark = u.seq.confirmedMark ∧
    t.rx.expected = u.rx.expected ∧ t.rx.lastApplied = u.rx.lastApplied ∧ t.rx.applyFaults = u.rx.applyFaults ∧
    t.rx.nakOutstanding = u.rx.nakOutstanding ∧ t.rx.applyQueue = u.rx.applyQueue ∧
    t.rx.appliedMark = u.rx.appliedMark ∧ t.role = u.role ∧ t.service = u.service ∧ t.time = u.time ∧
    t.pending = u.pending ∧ t.freeCount = u.freeCount ∧ t.coldPin = u.coldPin ∧
    t.journal.entries.map (fun e => { e with sent := false, everSent := false }) =
      u.journal.entries.map (fun e => { e with sent := false, everSent := false })

end Sys2Proof.Machine
end

