-- ==== Sys2Proof/Certificates/Slice0/Obligations.lean ====
section
/-! DEFINITION. The statements for the provers. Each says what the block does, from the rules of spec/; what a step settles
at once is said with `settle` or with `SameButSettled`, and statements of their own say what those are. -/

section

open Sys2Proof Sys2Proof.Machine


/-! ### Steps -/

/-- A step takes the command at the front of the queue and runs it on the state with the rest of the queue. -/
def Obligations.StepRunsTheFrontCommand : Prop :=
  ∀ (c : Instr) (rest : List Instr) (s : State), s.pending = c :: rest → step s = exec c (s.withPending rest)

/-- Every command answers a next state and leaves the queue of commands alone, and so does every step answer: the block
never stops. On an empty queue a step of the unit itself that is due is taken: a due examination of the apply head
first and then a due grant, and of the others the only one if there is one alone and any of them otherwise; when none
is due one microsecond passes and nothing else changes, and while the cold reset pin is asserted no step is due and no
time passes (R69, R140, R183, R184). The steps due, each once: a due examination alone, else a due grant alone, else the
end of a drain whose queue is empty (R161), the command of each timer that is due, HOLD_EXPIRY for the tag of each record
of age tHELD, HELLO_REPEAT in HAIL at tHAIL, and nothing else (R33, R54, R103, R109, R119, R120). That the unit takes its
steps so is the model's choice (assumption log 2, 3, 5 and 29). -/
def Obligations.StepsNeverStop : Prop :=
  ((∀ (c : Instr) (s : State), ∃ t, exec c s = .next t ∧ t.pending = s.pending) ∧ ∀ s : State, ∃ t, step s = .next t) ∧
    (∀ s : State, s.pending = [] →
      (s.coldPin = true → s.dueSteps = [] ∧ step s = .next s) ∧
        (s.coldPin = false → s.dueSteps = [] → step s = .next (s.withTime (s.time + 1))) ∧
        (∀ c, s.dueSteps = [c] → step s = exec c s) ∧
        (s.coldPin = false →
          (s.examineDue = true → step s = exec .applyHeadExamine s) ∧
            (s.examineDue = false → s.grantDue = true → step s = exec .portGrant s)) ∧
        (2 ≤ s.dueSteps.length → ∃ c ∈ s.dueSteps, step s = exec c (s.withFreeCount (s.freeCount + 1)))) ∧
    ∀ s : State, s.dueSteps.Nodup ∧
      (s.coldPin = false →
        (s.examineDue = true → s.dueSteps = [.applyHeadExamine]) ∧
          (s.examineDue = false → s.grantDue = true → s.dueSteps = [.portGrant]) ∧
          (s.examineDue = false → s.grantDue = false →
            ∀ c : Instr, c ∈ s.dueSteps ↔
              (c = .drainEnd ∧ s.role = .draining ∧ s.rx.applyQueue = []) ∨
                (c = .stallExpiry ∧ s.timerDue .stall = true) ∨
                (∃ r ∈ s.host.held, c = .holdExpiry r.tag ∧ s.service.timers.tHeld ≤ (s.time - r.start).toNat) ∨
                (c = .ackTimerExpiry ∧ s.timerDue .ack = true) ∨ (c = .probeIdleExpiry ∧ s.timerDue .probe = true) ∨
                (c = .silenceExpiry ∧ s.timerDue .quiet = true) ∨
                (c = .helloRepeat ∧ s.link.state = .hail ∧ s.link.helloDue = false ∧
                  ∃ a, s.link.lastHello = some a ∧ 100 ≤ (s.time - a).toNat)))

/-- The state after reset, with the cold reset pin released, holds every cold reset value; so does the state after the pin
is asserted, and after it is released, which takes the detector's verdict (R182, R184). Both keep the level of the host
port reset line, the answers given before and the queue of commands; a pin that is released already is not released
again. The cold values take in the requested count 0 (assumption log 9) and the emptied loop of the test (assumption log
28); the rest that is the model's own is in assumption log 6, 7, 8, 10 and 14. -/
def Obligations.ColdResetSetsEveryField : Prop :=
  (ColdValues State.reset ∧ State.reset.coldPin = false) ∧
    ∀ s : State,
      (∃ t, exec (.coldReset .asserted) s = .next t ∧ ColdValues t ∧ t.coldPin = true ∧
        t.host.resetLine = s.host.resetLine ∧ s.host.responses <+: t.host.responses ∧
        (s.coldPin = true ∨ Ready s → t.host.responses = s.host.responses) ∧ t.pending = s.pending) ∧
        ∀ signal : LaneSignal,
          (s.coldPin = true →
            ∃ t, exec (.coldReset (.released signal)) s = .next t ∧ ColdValues t ∧ t.coldPin = false ∧
              t.link.signal = signal ∧ t.host.resetLine = s.host.resetLine ∧
              t.host.responses = s.host.responses ∧ t.pending = s.pending) ∧
            (Ready s → exec (.coldReset (.released signal)) s = .next s)


/-! ### Frames and messages -/

/-- The kind codes are those of the table, each of weight two; a code of another weight and the code 11000 name no
kind, so no single changed bit turns one code into another, and a frame with an invalid code is damaged (R97). A
received string of bytes is damaged for its kind code, its length or its CRC, and for nothing else (R99). The CRC of no
bytes is the inverse of all ones; each byte enters its register most significant bit first and is divided by the
generator polynomial, and the remainder is inverted (R98). -/
def Obligations.FramesAreDamagedByCodeLengthOrCrc : Prop :=
  (crc [] = ~~~0xFFFFFFFF ∧
    ∀ (l : List Byte) (b : Byte),
      let generator : BitVec 32 :=
        [26, 23, 22, 16, 12, 11, 10, 8, 7, 5, 4, 2, 1, 0].foldl (fun r i => r ||| 1#32 <<< i) 0
      let shift := fun r : BitVec 32 => if r.msb = true then (r <<< 1) ^^^ generator else r <<< 1
      crc (l ++ [b]) = ~~~(List.range 8).foldl (fun r _ => shift r) (~~~crc l ^^^ b.setWidth 32 <<< 24)) ∧
  (FrameKind.hello.code = 0b00011 ∧ FrameKind.update.code = 0b00101 ∧ FrameKind.sweep.code = 0b00110 ∧
      FrameKind.mark.code = 0b01001 ∧ FrameKind.probe.code = 0b01010 ∧ FrameKind.ack.code = 0b01100 ∧
      FrameKind.nak.code = 0b10001 ∧ FrameKind.report.code = 0b10010 ∧ FrameKind.test.code = 0b10100 ∧
      (∀ (n : Nat) (k : FrameKind), FrameKind.ofCode n = some k ↔ n = k.code) ∧
      (∀ n < 32, FrameKind.ofCode n = none ↔ (List.range 5).countP n.testBit ≠ 2 ∨ n = 0b11000) ∧
      (∀ (k : FrameKind), ∀ i < 5, FrameKind.ofCode (k.code ^^^ 1 <<< i) = none) ∧
      ∀ (h : Byte) (l : List Byte), FrameKind.ofCode (h.toNat / 8) = none → Frame.ofBytes (h :: l) = none) ∧
    frameDamaged [] = true ∧
      ∀ (h : Byte) (l : List Byte),
        frameDamaged (h :: l) = true ↔
          FrameKind.ofCode (h.toNat / 8) = none ∨
            ∃ k, FrameKind.ofCode (h.toNat / 8) = some k ∧
              ((h :: l).length ≠
                  (match k with
                  | .hello => if h.getLsbD 0 = true then 6 else 8
                  | .update => 86
                  | .sweep => 78
                  | .mark => 86
                  | .probe => 6
                  | .ack => 10
                  | .nak => 8
                  | .report => 13
                  | .test => 71) ∨
                (h :: l).drop ((h :: l).length - 4) ≠
                  beBytes 4 (crc ((h :: l).take ((h :: l).length - 4))).toNat)

/-- The layout of R98, field by field: the header is the five-bit kind code, two bits of 0 and the qualifier; the window
is four bits of 0 and the index; the target line is its number and six bits of 0; byte position 0 of the mask is the most
significant bit of its first byte, and byte position 0 of the data is first; numbers go most significant byte first, and
the CRC over all before it is last. Reading such bytes gives back every field, whatever stands in the bits that the
receiver does not examine, and the bytes are as many as the layout says (R96, R97, R98, R99). A SWEEP frame carries no
mask: all 64 bytes are meant. -/
def Obligations.FrameRoundTrip : Prop :=
  (∀ n v : Nat, beBytes n v = (List.range n).map fun i => BitVec.ofNat 8 (v / 256 ^ (n - 1 - i))) ∧
    ∀ f : Frame, (∀ d, f = .data d → d.kind = .sweep → d.mask = fullMask) →
      let frame := fun (spare : BitVec 2) (upper : BitVec 4) (low : BitVec 6) (unused : Bool) =>
        let header := fun (code : BitVec 5) (qualifier : Bool) => code ++ spare ++ BitVec.ofBool qualifier
        let line := fun target : Line => beBytes 5 (target ++ low).toNat
        let body : List Byte :=
          match f with
          | .hello (.source e b) => [header 0b00011 false, e] ++ beBytes 2 b.toNat
          | .hello (.sink e) => [header 0b00011 true, e]
          | .data d =>
            [header (match d.kind with | .update => 0b00101 | .sweep => 0b00110 | .mark => 0b01001) d.poison, d.epoch] ++
              beBytes 2 d.seq.toNat ++ [upper ++ BitVec.ofNat 4 d.window.val] ++ line d.target ++
              (if d.kind = .sweep then []
              else (List.range 8).map fun k => BitVec.ofFnLE fun j : Fin 8 => d.mask.getLsbD (8 * k + (7 - j.val))) ++
              d.data.toList
          | .probe e => [header 0b01010 unused, e]
          | .ack e q n => [header 0b01100 unused, e] ++ beBytes 2 q.toNat ++ beBytes 2 n.toNat
          | .nak e q r => [header 0b10001 (match r with | .gap => false | .damaged => true), e] ++ beBytes 2 q.toNat
          | .report r =>
            [header 0b10010 (match r.kind with | .range => false | .apply => true), r.epoch] ++ beBytes 2 r.seq.toNat ++
              line r.target
          | .test p d => [header 0b10100 unused] ++ beBytes 2 p.toNat ++ d.toList
        body ++ beBytes 4 (crc body).toNat
      f.toBytes = frame 0 0 0 false ∧
        (∀ spare upper low unused, Frame.ofBytes (frame spare upper low unused) = some f) ∧
        Frame.ofBytes f.toBytes = some f ∧
        f.toBytes.length =
          match f with
          | .hello (.source _ _) => 8
          | .hello (.sink _) => 6
          | .data d => if d.kind = .sweep then 78 else 86
          | .probe _ => 6
          | .ack _ _ _ => 10
          | .nak _ _ _ => 8
          | .report _ => 13
          | .test _ _ => 71

/-- A message is bad exactly if it is shorter than 4 bytes, of a length other than 4 + L, or of a sum other than 0 (R168),
and is then read as BAD_MESSAGE; a message of code, echo, length, arguments and check is read as the command of its code,
which is one of nineteen, or UNKNOWN_COMMAND (R167, R168, R170). A response message has the layout and the codes of R167.
The bytes of a frame are read as the command of that frame, and damaged bytes as DAMAGED_FRAME (R99, R100). Whatever
bytes a lane or the maintenance bus delivers, the command they are is well formed. -/
def Obligations.ReceivedBytesAreReadAsCommands : Prop :=
  (∀ l : List Byte,
      (badMessageBytes l = true ↔
          l.length < 4 ∨ l.length ≠ 4 + (l.getD 2 0).toNat ∨ (l.map BitVec.toNat).sum % 256 ≠ 0) ∧
        (badMessageBytes l = true → messageCommand l = .badMessage l)) ∧
    (∀ (code echo check : Byte) (args : List Byte), args.length ≤ 255 →
      badMessageBytes (messageBytes code echo args) = false ∧
        messageCommand (messageBytes code echo args) = codeCommand code echo args ∧
        (∀ l : List Byte, l = [code, echo, BitVec.ofNat 8 args.length] ++ args ++ [check] →
          (l.map BitVec.toNat).sum % 256 = 0 → l = messageBytes code echo args)) ∧
    (∀ (code echo : Byte) (args : List Byte),
      codeCommand code echo args =
        if code = 1 then .getStatus echo args
        else if code = 2 then .setWindow echo args
        else if code = 3 then .getWindow echo args
        else if code = 4 then .enableWindow echo args
        else if code = 5 then .disableWindow echo args
        else if code = 6 then .startSweep echo args
        else if code = 7 then .pauseWindow echo args
        else if code = 8 then .assumeSource echo args
        else if code = 9 then .assumeSink echo args
        else if code = 10 then .isolate echo args
        else if code = 11 then .setTimers echo args
        else if code = 12 then .setMask echo args
        else if code = 13 then .readEvents echo args
        else if code = 14 then .readFault echo args
        else if code = 15 then .getMarks echo args
        else if code = 16 then .setOverride echo args
        else if code = 17 then .getStats echo args
        else if code = 18 then .linkTest echo args
        else if code = 19 then .restart echo args
        else .unknownCommand echo code args) ∧
    (∀ r : ServiceResponse, ∃ check : Byte,
      r.bytes =
          [r.echo, r.code,
              (match r.status with
                | .done => 0
                | .accepted => 1
                | .busy => 2
                | .refused => 3
                | .unknown => 4
                | .badMessage => 5),
              (match r.reason with
                | .noReason => 0
                | .value => 1
                | .bounds => 2
                | .overlap => 3
                | .limit => 4
                | .state => 5
                | .role => 6
                | .link => 7
                | .pending => 8
                | .order => 9
                | .empty => 10),
              BitVec.ofNat 8 r.results.length] ++
            r.results ++ [check] ∧
        (r.bytes.map BitVec.toNat).sum % 256 = 0) ∧
    (∀ l : List Byte,
      (frameDamaged l = true → frameCommand l = .damagedFrame l) ∧
        ∀ f : Frame, (∀ d, f = .data d → d.kind = .sweep → d.mask = fullMask) → l = f.toBytes →
          frameCommand l =
            match f with
            | .hello h => .receiveHello h
            | .data d => .receiveDataFrame d
            | .probe e => .receiveProbe e
            | .ack e q c => .receiveAck e q c
            | .nak e q reason => .receiveNak e q reason
            | .report r => .receiveReport r
            | .test k payload => .receiveTestFrame k payload) ∧
    ∀ l : List Byte, (frameCommand l).wellFormed = true ∧ (messageCommand l).wellFormed = true


/-! ### The service port -/

/-- A service command whose argument length is not the one of its code is answered REFUSED VALUE without results and
changes nothing else, for each of the nineteen commands (R168, R170). A bad message is answered BAD_MESSAGE with the
echo and code bytes received, 0 for a message shorter than 2 bytes; an unassigned code is answered UNKNOWN; neither
does anything else (R168). -/
def Obligations.FaultyMessagesAreOnlyAnswered : Prop :=
  (∀ (echo : Byte) (args : List Byte) (s : State), Ready s →
      (args.length ≠ 0 → exec (.getStatus echo args) s = .next (s.reply echo 1 .refused .value [])) ∧
        (args.length ≠ 15 → exec (.setWindow echo args) s = .next (s.reply echo 2 .refused .value [])) ∧
        (args.length ≠ 1 → exec (.getWindow echo args) s = .next (s.reply echo 3 .refused .value [])) ∧
        (args.length ≠ 1 → exec (.enableWindow echo args) s = .next (s.reply echo 4 .refused .value [])) ∧
        (args.length ≠ 1 → exec (.disableWindow echo args) s = .next (s.reply echo 5 .refused .value [])) ∧
        (args.length ≠ 2 → exec (.startSweep echo args) s = .next (s.reply echo 6 .refused .value [])) ∧
        (args.length ≠ 1 → exec (.pauseWindow echo args) s = .next (s.reply echo 7 .refused .value [])) ∧
        (args.length ≠ 0 → exec (.assumeSource echo args) s = .next (s.reply echo 8 .refused .value [])) ∧
        (args.length ≠ 1 → exec (.assumeSink echo args) s = .next (s.reply echo 9 .refused .value [])) ∧
        (args.length ≠ 0 → exec (.isolate echo args) s = .next (s.reply echo 10 .refused .value [])) ∧
        (args.length ≠ 21 → exec (.setTimers echo args) s = .next (s.reply echo 11 .refused .value [])) ∧
        (args.length ≠ 2 → exec (.setMask echo args) s = .next (s.reply echo 12 .refused .value [])) ∧
        (args.length ≠ 0 → exec (.readEvents echo args) s = .next (s.reply echo 13 .refused .value [])) ∧
        (args.length ≠ 0 → exec (.readFault echo args) s = .next (s.reply echo 14 .refused .value [])) ∧
        (args.length ≠ 0 → exec (.getMarks echo args) s = .next (s.reply echo 15 .refused .value [])) ∧
        (args.length ≠ 1 → exec (.setOverride echo args) s = .next (s.reply echo 16 .refused .value [])) ∧
        (args.length ≠ 0 → exec (.getStats echo args) s = .next (s.reply echo 17 .refused .value [])) ∧
        (args.length ≠ 2 → exec (.linkTest echo args) s = .next (s.reply echo 18 .refused .value [])) ∧
        (args.length ≠ 0 → exec (.restart echo args) s = .next (s.reply echo 19 .refused .value []))) ∧
    (∀ (code echo : Byte) (rest : List Byte) (s : State), Ready s →
        exec (.badMessage (code :: echo :: rest)) s = .next (s.reply echo code .badMessage .noReason [])) ∧
      (∀ (bytes : List Byte) (s : State), Ready s → bytes.length < 2 →
        exec (.badMessage bytes) s = .next (s.reply 0 0 .badMessage .noReason [])) ∧
      ∀ (echo code : Byte) (args : List Byte) (s : State), Ready s →
        exec (.unknownCommand echo code args) s = .next (s.reply echo code .unknown .noReason [])

/-- GET_STATUS answers DONE with the status record and changes nothing (R171). GET_MARKS answers the two mark records,
an invalid one as zeros; GET_STATS answers the six counts; neither changes anything (R179, R180). -/
def Obligations.StatusMarksAndStatsAreReturned : Prop :=
  (∀ (echo : Byte) (s : State), Ready s →
      exec (.getStatus echo []) s =
        .next
          (s.reply echo 1 .done .noReason
            (([(match s.role with
                | .isolated => 0
                | .source => 1
                | .sink => 2
                | .draining => 3),
              (match s.link.state with
                | .down => 0
                | .hail => 1
                | .up => 2
                | .clash => 3),
              s.link.epoch] : List Byte) ++
              beBytes 2 s.journal.entries.length ++ beBytes 1 (s.journal.entries.countP (·.sent)) ++
              beBytes 1 s.rx.applyQueue.length ++ beBytes 4 s.dirty.length ++
              (match s.sweep.position with
                | none => [0, 0, 0, 0, 0, 0, 0]
                | some p => [1] ++ beBytes 1 p.window.val ++ beBytes 3 p.granule ++ beBytes 2 p.nextLine.toNat) ++
              ([if s.service.override then 1 else 0, if s.service.overrun then 1 else 0] : List Byte) ++
              beBytes 2 s.service.events.toNat ++
              ([if s.link.test.running then 1 else 0,
                (match s.link.test.outcome with
                | .noOutcome => 0
                | .complete => 1
                | .aborted => 2)] : List Byte) ++
              beBytes 2 s.link.test.requested.toNat ++ beBytes 2 s.link.test.good.toNat ++
              beBytes 2 s.link.test.damaged.toNat ++ beBytes 4 s.time.toNat))) ∧
    ∀ (echo : Byte) (s : State), Ready s →
      (∃ c a : List Byte,
          exec (.getMarks echo []) s = .next (s.reply echo 15 .done .noReason (c ++ a)) ∧
            (s.seq.confirmedMark.valid = false → c = List.replicate 20 0) ∧
            (s.seq.confirmedMark.valid = true →
              c = [1] ++ beBytes 1 s.seq.confirmedMark.window.val ++
                beBytes 5 (s.seq.confirmedMark.target.toNat * 64) ++ beBytes 1 s.seq.confirmedMark.wordIndex.val ++
                s.seq.confirmedMark.word.toList ++ beBytes 2 s.seq.confirmedMark.seq.toNat ++
                [s.seq.confirmedMark.epoch, if s.seq.confirmedMark.reported then 1 else 0]) ∧
            (s.rx.appliedMark.valid = false → a = List.replicate 19 0) ∧
            (s.rx.appliedMark.valid = true →
              a = [1] ++ beBytes 1 s.rx.appliedMark.window.val ++ beBytes 5 (s.rx.appliedMark.target.toNat * 64) ++
                beBytes 1 s.rx.appliedMark.wordIndex.val ++ s.rx.appliedMark.word.toList ++
                beBytes 2 s.rx.appliedMark.seq.toNat ++ [s.rx.appliedMark.epoch])) ∧
        exec (.getStats echo []) s =
          .next
            (s.reply echo 17 .done .noReason
              (beBytes 4 s.service.stats.damagedFrames.toNat ++ beBytes 4 s.service.stats.rewinds.toNat ++
                beBytes 4 s.service.stats.overflowSuspensions.toNat ++ beBytes 4 s.service.stats.holdExpiries.toNat ++
                beBytes 4 s.service.stats.entriesAcked.toNat ++ beBytes 4 s.service.stats.entriesApplied.toNat))

/-- GET_WINDOW answers DONE with the record of the window and its dirty count, refuses an index above 15 VALUE, and
changes nothing (R8, R170). -/
def Obligations.GetWindowReturnsTheRecord : Prop :=
  ∀ (echo : Byte) (s : State), Ready s →
    (∀ w : WinIdx,
        exec (.getWindow echo [BitVec.ofNat 8 w.val]) s =
          .next
            (s.reply echo 3 .done .noReason
              (beBytes 4 s.windows[w].localBase ++ beBytes 4 s.windows[w].size ++ beBytes 4 s.windows[w].remoteBase ++
                ([(match s.windows[w].kind with
                    | .mirror => 0
                    | .marker => 1),
                  (match s.windows[w].cls with
                    | .posted => 0
                    | .held => 1),
                  (if s.windows[w].state = .off then 0 else 1),
                  (match s.windows[w].state with
                    | .off => 0
                    | .suspended => 1
                    | .sweeping => 2
                    | .mirroring => 3),
                  (match s.windows[w].cause with
                    | .enabled => 0
                    | .link => 1
                    | .overflow => 2
                    | .partner => 3
                    | .missingReport => 4
                    | .paused => 5
                    | .role => 6
                    | .restart => 7)] : List Byte) ++
                beBytes 4
                  (s.dirty.countP fun g =>
                    s.windows[w].localBase ≤ g ∧ g < s.windows[w].localBase + s.windows[w].size)))) ∧
      ∀ n : Byte, 15 < n.toNat → exec (.getWindow echo [n]) s = .next (s.reply echo 3 .refused .value [])

/-- Raising a cause adds its one bit to the pending set; READ_EVENTS returns the set and empties it; SET_MASK replaces
the mask by the low 14 bits of its argument and returns it; the attention line is asserted exactly while a pending
cause is not masked and the cold reset pin is released (R174, R175, R176). -/
def Obligations.EventsAreReadAndMasked : Prop :=
  (EventCause.linkUp.bit = 0 ∧ EventCause.linkDown.bit = 1 ∧ EventCause.clash.bit = 2 ∧
      EventCause.windowSuspended.bit = 3 ∧ EventCause.sweepDone.bit = 4 ∧ EventCause.stallOverflow.bit = 5 ∧
      EventCause.holdExpired.bit = 6 ∧ EventCause.markConfirmed.bit = 7 ∧ EventCause.markApplied.bit = 8 ∧
      EventCause.applyFault.bit = 9 ∧ EventCause.partnerFault.bit = 10 ∧ EventCause.roleDone.bit = 11 ∧
      EventCause.testDone.bit = 12 ∧ EventCause.faultLogged.bit = 13) ∧
    (∀ (s : State) (c : EventCause),
      s.raise c = s.withService { s.service with events := s.service.events ||| 1#14 <<< c.bit }) ∧
    (∀ (echo : Byte) (s : State), Ready s →
      exec (.readEvents echo []) s =
        .next
          ((s.withService { s.service with events := 0 }).reply echo 13 .done .noReason
            (beBytes 2 s.service.events.toNat))) ∧
    (∀ (echo hi lo : Byte) (s : State), Ready s →
      exec (.setMask echo [hi, lo]) s =
        .next
          ((s.withService { s.service with mask := (hi ++ lo).setWidth 14 }).reply echo 12 .done .noReason
            [hi &&& 0x3F, lo])) ∧
    ∀ s : State,
      s.attention = true ↔
        s.coldPin = false ∧ ∃ i < 14, s.service.events.getLsbD i = true ∧ s.service.mask.getLsbD i = false

/-- An offered fault record carries the time counter and the fields given; it is appended while the list holds fewer
than 8 records, and otherwise dropped with the overrun flag set; FAULT_LOGGED joins the pending set either way, and
nothing else changes (R177). READ_FAULT removes the oldest record and returns it in its layout with the overrun flag as
it stood and the number remaining, the last one clearing the flag; an empty list is answered REFUSED EMPTY with results
of zeros (R178). -/
def Obligations.FaultListKeepsAndReturnsRecords : Prop :=
  (∀ (s : State) (kind : FaultKind) (w : Option WinIdx) (l : Option Line) (q : Option Seq) (e : Option Epoch),
      (s.service.faults.length < 8 →
          s.offerFault kind w l q e =
            s.withService
              { s.service with
                faults :=
                  s.service.faults ++ [{ kind := kind, time := s.time, window := w, line := l, seq := q, epoch := e }]
                events := s.service.events ||| 1#14 <<< 13 }) ∧
        (8 ≤ s.service.faults.length →
          s.offerFault kind w l q e =
            s.withService { s.service with overrun := true, events := s.service.events ||| 1#14 <<< 13 })) ∧
    ∀ (echo : Byte) (s : State), Ready s →
      (∀ (r : FaultRecord) (rest : List FaultRecord), s.service.faults = r :: rest → rest.length < 8 →
          exec (.readFault echo []) s =
            .next
              ((s.withService
                  { s.service with faults := rest, overrun := !rest.isEmpty && s.service.overrun }).reply
                echo 14 .done .noReason
                ([(match r.kind with
                    | .hostTag => 1
                    | .poisonWrite => 2
                    | .memoryError => 3
                    | .overflow => 4
                    | .rounds => 5
                    | .bogusAck => 6
                    | .clash => 7
                    | .range => 8
                    | .apply => 9
                    | .partnerReport => 10
                    | .missingReport => 11),
                  BitVec.ofNat 8
                    (r.window.isSome.toNat + 2 * r.line.isSome.toNat + 4 * r.seq.isSome.toNat + 8 * r.epoch.isSome.toNat)] ++
                  beBytes 4 r.time.toNat ++ beBytes 1 ((r.window.map Fin.val).getD 0) ++
                  beBytes 5 ((r.line.map fun l => l.toNat * 64).getD 0) ++ beBytes 2 ((r.seq.map BitVec.toNat).getD 0) ++
                  beBytes 1 ((r.epoch.map BitVec.toNat).getD 0) ++ [0] ++ [if s.service.overrun then 1 else 0] ++
                  [BitVec.ofNat 8 rest.length]))) ∧
        (s.service.faults = [] →
          exec (.readFault echo []) s =
            .next
              (s.reply echo 14 .refused .empty (List.replicate 16 0 ++ [if s.service.overrun then 1 else 0, 0])))

/-- SET_TIMERS carries and returns 21 bytes: tACK, tPROBE, tQUIET, tSTALL and tHELD in four each and the round limit in
one, most significant byte first (R170). A value out of its range is REFUSED VALUE, a set that fails the ordering check
REFUSED ORDER, each with the settings in force; the set in force is DONE and changes nothing; another set replaces all
six, every timer then due expires, and the new settings are returned (R173). With no timer due nothing else changes, and
with one due it alone expires; the order of several is free (assumption log 4). When each timer is due, what its expiry
does, that a timer not due does nothing, and that the expiry commands do the same (R33, R34, R54, R109, R119, R120); the
held records that are due expire in tag order (R54). -/
def Obligations.SetTimersReplacesAllOrNothing : Prop :=
  (∀ (echo : Byte) (t : Timers) (s : State),
    t.tAck < 2 ^ 32 → t.tProbe < 2 ^ 32 → t.tQuiet < 2 ^ 32 → t.tStall < 2 ^ 32 → t.tHeld < 2 ^ 32 →
    t.roundLimit < 256 → Ready s →
    let four := fun v : Nat =>
      [BitVec.ofNat 8 (v / 16777216), BitVec.ofNat 8 (v / 65536), BitVec.ofNat 8 (v / 256), BitVec.ofNat 8 v]
    let wire := fun x : Timers =>
      four x.tAck ++ four x.tProbe ++ four x.tQuiet ++ four x.tStall ++ four x.tHeld ++ [BitVec.ofNat 8 x.roundLimit]
    let legal :=
      (2 ≤ t.tAck ∧ t.tAck ≤ 1000) ∧ (10 ≤ t.tProbe ∧ t.tProbe ≤ 10000) ∧ (50 ≤ t.tQuiet ∧ t.tQuiet ≤ 50000) ∧
        (1 ≤ t.tStall ∧ t.tStall ≤ 1000) ∧ (10 ≤ t.tHeld ∧ t.tHeld ≤ 100000) ∧ t.roundLimit ≤ 7
    (¬ legal → exec (.setTimers echo (wire t)) s = .next (s.reply echo 11 .refused .value (wire s.service.timers))) ∧
      (legal → t.tQuiet < 2 * t.tProbe + t.tAck →
        exec (.setTimers echo (wire t)) s = .next (s.reply echo 11 .refused .order (wire s.service.timers))) ∧
      (legal → 2 * t.tProbe + t.tAck ≤ t.tQuiet → t = s.service.timers →
        exec (.setTimers echo (wire t)) s = .next (s.reply echo 11 .done .noReason (wire t))) ∧
      (legal → 2 * t.tProbe + t.tAck ≤ t.tQuiet → t ≠ s.service.timers →
        (let u := s.withService { s.service with timers := t }
        ((∀ n, u.timerDue n = false) → exec (.setTimers echo (wire t)) s = .next (u.reply echo 11 .done .noReason (wire t))) ∧
          (∀ n, u.timerDue n = true → (∀ m, u.timerDue m = true → m = n) →
            exec (.setTimers echo (wire t)) s = .next ((u.expireTimer n).reply echo 11 .done .noReason (wire t))) ∧
          ∃ l : List TimerName, l.Nodup ∧ (∀ n, n ∈ l ↔ u.timerDue n = true) ∧
            ∃ v, (v = l.foldl State.expireTimer u ∨ v = (l.foldl State.expireTimer u).withFreeCount (u.freeCount + 1)) ∧
              exec (.setTimers echo (wire t)) s = .next (v.reply echo 11 .done .noReason (wire t))))) ∧
    (∀ v : State,
      let passed := fun (start : Option Time) (limit : Nat) => ∃ a, start = some a ∧ limit ≤ (v.time - a).toNat
      let blocked := ∀ e, v.journal.entries.find? (fun x => !x.sent) = some e →
        e.isOpen = true ∨ 32 ≤ v.journal.entries.countP (·.sent)
      (v.timerDue .ack = true ↔ v.inSession ∧ passed v.seq.ackStart v.service.timers.tAck) ∧
        (v.timerDue .probe = true ↔
          v.inSession ∧ v.link.lane = none ∧ blocked ∧ passed v.seq.lastSend v.service.timers.tProbe) ∧
        (v.timerDue .quiet = true ↔ v.link.state = .up ∧ passed v.link.lastReceipt v.service.timers.tQuiet) ∧
        (v.timerDue .stall = true ↔
          v.headCondition = some .stalled ∧ passed v.journal.stallStart v.service.timers.tStall) ∧
        (v.timerDue .held = true ↔ ∃ r ∈ v.host.held, v.service.timers.tHeld ≤ (v.time - r.start).toNat)) ∧
    ∀ v : State,
      (∀ n, v.timerDue n = false → v.expireTimer n = v) ∧
        (v.timerDue .ack = true → v.expireTimer .ack = (v.askRewind 0).settle) ∧
        (v.timerDue .probe = true →
          v.expireTimer .probe =
            ((v.withLink { v.link with lane := some (.probe v.link.epoch) }).withSeq
                { v.seq with lastSend := some v.time }).settle) ∧
        (v.timerDue .quiet = true → v.expireTimer .quiet = (v.linkLoss .link).settle) ∧
        (∀ r rest w, v.timerDue .stall = true → v.host.queue = r :: rest → v.classify r.line = .capture w →
          v.expireTimer .stall =
            ((((v.suspendWhere Window.capturing .overflow).offerFault .overflow (some w) (some r.line) none none).raise
                  .stallOverflow).count
              fun x => { x with overflowSuspensions := countUp x.overflowSuspensions }).settle) ∧
        v.expireTimer .held = (List.finRange 16).foldl State.expireHold v ∧
        (Ready v →
          exec .ackTimerExpiry v = .next (v.expireTimer .ack) ∧
            exec .probeIdleExpiry v = .next (v.expireTimer .probe) ∧
            exec .silenceExpiry v = .next (v.expireTimer .quiet) ∧
            exec .stallExpiry v = .next (v.expireTimer .stall) ∧
            ∀ tag, exec (.holdExpiry tag) v = .next (v.expireHold tag))

/-- SET_OVERRIDE: a setting other than 0 or 1 is refused VALUE; the value in force is DONE and changes nothing; a
change is DONE and acts at once on the head of the host queue (R57, R180). -/
def Obligations.SetOverrideActsAtOnce : Prop :=
  ∀ (echo : Byte) (s : State), Ready s →
    (∀ b : Byte, 1 < b.toNat → exec (.setOverride echo [b]) s = .next (s.reply echo 16 .refused .value [])) ∧
      ∀ on : Bool,
        (on = s.service.override →
          exec (.setOverride echo [if on then 1 else 0]) s = .next (s.reply echo 16 .done .noReason [])) ∧
        (on ≠ s.service.override →
          exec (.setOverride echo [if on then 1 else 0]) s =
            .next ((s.withService { s.service with override := on }).settle.reply echo 16 .done .noReason []))


/-! ### Windows -/

/-- SET_WINDOW applies its five checks in their order and writes the five fields of an OFF window, or changes no field
(R4). -/
def Obligations.SetWindowChecksThenWrites : Prop :=
  ∀ (echo : Byte) (n lb sz rb k c : Nat) (s : State),
    n < 256 → lb < 2 ^ 32 → sz < 2 ^ 32 → rb < 2 ^ 32 → k < 256 → c < 256 → Ready s →
    let command := Instr.setWindow echo
      (beBytes 1 n ++ beBytes 4 lb ++ beBytes 4 sz ++ beBytes 4 rb ++ beBytes 1 k ++ beBytes 1 c)
    (15 < n → exec command s = .next (s.reply echo 2 .refused .value [])) ∧
      ∀ w : WinIdx, w.val = n →
        (s.windows[w].state ≠ .off → exec command s = .next (s.reply echo 2 .busy .noReason [])) ∧
          (s.windows[w].state = .off →
            (sz = 0 ∨ 65536 < sz ∨ 1 < k ∨ 1 < c → exec command s = .next (s.reply echo 2 .refused .value [])) ∧
              (1 ≤ sz → sz ≤ 65536 → k ≤ 1 → c ≤ 1 →
                (16777215 < lb ∨ 16777215 < lb + sz - 1 ∨ 16777215 < rb ∨ 16777215 < rb + sz - 1 →
                    exec command s = .next (s.reply echo 2 .refused .bounds [])) ∧
                  (lb + sz - 1 ≤ 16777215 → rb + sz - 1 ≤ 16777215 →
                    exec command s =
                      .next
                        ((s.withWindows
                            (s.windows.set w
                              { s.windows[w] with
                                localBase := lb, size := sz, remoteBase := rb
                                kind := if k = 0 then .mirror else .marker
                                cls := if c = 0 then .posted else .held })).reply
                          echo 2 .done .noReason []))))

/-- ENABLE_WINDOW applies its five checks in their order; an accepted one suspends the window, and in SOURCE and
ISOLATED roles marks its whole local range dirty (R5, R6). -/
def Obligations.EnableWindowChecksThenSuspends : Prop :=
  ∀ (echo : Byte) (s : State), Ready s →
    (∀ n : Byte, 15 < n.toNat → exec (.enableWindow echo [n]) s = .next (s.reply echo 4 .refused .value [])) ∧
      ∀ w : WinIdx,
        let command := Instr.enableWindow echo [BitVec.ofNat 8 w.val]
        let x := s.windows[w]
        let shares := ∃ v : WinIdx, v ≠ w ∧ s.windows[v].state ≠ .off ∧ ∃ g : Nat,
          (x.localHas g = true ∧ s.windows[v].localHas g = true) ∨
            (x.remoteHas g = true ∧ s.windows[v].remoteHas g = true)
        let total :=
          ((List.finRange 16).map fun v => if s.windows[v].state = .off then 0 else s.windows[v].size).sum
        (x.state ≠ .off → exec command s = .next (s.reply echo 4 .done .noReason [])) ∧
          (x.state = .off → x.size = 0 → exec command s = .next (s.reply echo 4 .refused .value [])) ∧
          (x.state = .off → 0 < x.size → shares → exec command s = .next (s.reply echo 4 .refused .overlap [])) ∧
          (x.state = .off → 0 < x.size → ¬ shares → 65536 < total + x.size →
            exec command s = .next (s.reply echo 4 .refused .limit [])) ∧
          (x.state = .off → 0 < x.size → ¬ shares → total + x.size ≤ 65536 →
            ∃ t, exec command s = .next t ∧
              t.windows =
                s.windows.set w
                  { x with
                    state := .suspended
                    cause := if s.role = .source ∨ s.role = .isolated then .enabled else .role } ∧
              (∀ g, g ∈ t.dirty ↔
                g ∈ s.dirty ∨ ((s.role = .source ∨ s.role = .isolated) ∧ x.localBase ≤ g ∧ g < x.localBase + x.size)) ∧
              SameButSettled (((s.withWindows t.windows).withDirty t.dirty).reply echo 4 .done .noReason []) t)

/-- DISABLE_WINDOW takes an enabled window to OFF with its cause kept and its granules out of the dirty set; a sweep
position there is dropped; the journal's entries stay (R7). PAUSE_WINDOW suspends a capturing window with cause PAUSED
and raises WINDOW_SUSPENDED; a sweep position there is dropped, the dirty set and the entries stay; a SUSPENDED window
is left as it is; an OFF one is refused STATE (R14). -/
def Obligations.DisableAndPauseEndCapture : Prop :=
  (∀ (echo : Byte) (s : State), Ready s →
      (∀ n : Byte, 15 < n.toNat → exec (.disableWindow echo [n]) s = .next (s.reply echo 5 .refused .value [])) ∧
        ∀ w : WinIdx,
          let command := Instr.disableWindow echo [BitVec.ofNat 8 w.val]
          let x := s.windows[w]
          let here := s.sweep.position.any fun p => p.window == w
          (x.state = .off → exec command s = .next (s.reply echo 5 .done .noReason [])) ∧
            (x.state ≠ .off →
              ∃ t, exec command s = .next t ∧ t.windows = s.windows.set w { x with state := .off } ∧
                t.dirty = s.dirty.filter (fun g => ¬ (x.localBase ≤ g ∧ g < x.localBase + x.size)) ∧
                (∀ p, t.sweep.position = some p → p.window ≠ w) ∧
                (∀ p, s.sweep.position = some p → p.window ≠ w → t.sweep.position = some p) ∧
                SameButSettled
                  ((((s.withWindows t.windows).withDirty t.dirty).withSweep
                      { position := none
                        inFlight :=
                          s.sweep.inFlight.map fun r => { r with current := r.current && !here } }).reply
                    echo 5 .done .noReason [])
                  t)) ∧
    ∀ (echo : Byte) (s : State), Ready s →
      (∀ n : Byte, 15 < n.toNat → exec (.pauseWindow echo [n]) s = .next (s.reply echo 7 .refused .value [])) ∧
        ∀ w : WinIdx,
          let command := Instr.pauseWindow echo [BitVec.ofNat 8 w.val]
          let x := s.windows[w]
          let here := s.sweep.position.any fun p => p.window == w
          (x.state = .off → exec command s = .next (s.reply echo 7 .refused .state [])) ∧
            (x.state = .suspended → exec command s = .next (s.reply echo 7 .done .noReason [])) ∧
            (x.state = .sweeping ∨ x.state = .mirroring →
              ∃ t, exec command s = .next t ∧
                t.windows = s.windows.set w { x with state := .suspended, cause := .paused } ∧
                (∀ p, t.sweep.position = some p → p.window ≠ w) ∧
                (∀ p, s.sweep.position = some p → p.window ≠ w → t.sweep.position = some p) ∧
                SameButSettled
                  ((((s.withWindows t.windows).raise .windowSuspended).withSweep
                      { position := none
                        inFlight :=
                          s.sweep.inFlight.map fun r => { r with current := r.current && !here } }).reply
                    echo 7 .done .noReason [])
                  t)

/-- START_SWEEP applies its six checks in their order; an accepted one marks the whole window dirty under scope FULL,
and takes the window to SWEEPING, or on to MIRRORING with SWEEP_DONE if it has no dirty granule and no SWEEP entry
(R12, R81, R82). -/
def Obligations.StartSweepChecksThenSweeps : Prop :=
  ∀ (echo : Byte) (s : State), Ready s →
    (∀ n c : Byte, 15 < n.toNat ∨ 1 < c.toNat →
        exec (.startSweep echo [n, c]) s = .next (s.reply echo 6 .refused .value [])) ∧
      ∀ (w : WinIdx) (full : Bool),
        let command := Instr.startSweep echo [BitVec.ofNat 8 w.val, if full then 1 else 0]
        let x := s.windows[w]
        (s.role ≠ .source → exec command s = .next (s.reply echo 6 .refused .role [])) ∧
          (s.role = .source → s.link.state ≠ .up → exec command s = .next (s.reply echo 6 .refused .link [])) ∧
          (s.role = .source → s.link.state = .up → x.state = .off →
            exec command s = .next (s.reply echo 6 .refused .state [])) ∧
          (s.role = .source → s.link.state = .up → x.state = .sweeping ∨ x.state = .mirroring →
            exec command s = .next (s.reply echo 6 .done .noReason [])) ∧
          (s.role = .source → s.link.state = .up → x.state = .suspended →
            ∃ t, exec command s = .next t ∧
              (∀ g, g ∈ t.dirty ↔ g ∈ s.dirty ∨ (full = true ∧ x.localBase ≤ g ∧ g < x.localBase + x.size)) ∧
              (∀ clean : Prop,
                (clean ↔
                    (∀ g ∈ t.dirty, x.localHas g = false) ∧
                      ∀ e ∈ s.journal.entries, e.kind = .sweep → e.window ≠ w) →
                (clean →
                    t.windows = s.windows.set w { x with state := .mirroring } ∧
                      SameButSettled
                        ((((s.withWindows t.windows).withDirty t.dirty).raise .sweepDone).reply echo 6 .done .noReason
                          [])
                        t) ∧
                  (¬ clean →
                    t.windows = s.windows.set w { x with state := .sweeping } ∧
                      SameButSettled
                        (((s.withWindows t.windows).withDirty t.dirty).reply echo 6 .done .noReason []) t)) ∧
              ∀ p, s.sweep.position = some p → t.sweep.position = some p)

/-- The owning window of a local granule is an enabled window whose local range holds it, and there is none exactly when no
enabled window holds it; the same of a partner granule by the remote range (R2). Translation carries a line to the same place of the remote range, and reverse translation
back (R3). -/
def Obligations.WindowsOwnAndTranslateLines : Prop :=
  (∀ (s : State) (g : Nat),
      (∀ w, s.owner g = some w → s.windows[w].state ≠ .off ∧ s.windows[w].localHas g = true) ∧
        (s.owner g = none ↔ ∀ w : WinIdx, s.windows[w].state ≠ .off → s.windows[w].localHas g = false) ∧
        (WindowsInv s → ∀ w : WinIdx, s.windows[w].state ≠ .off → s.windows[w].localHas g = true → s.owner g = some w) ∧
        (∀ w, s.remoteOwner g = some w → s.windows[w].state ≠ .off ∧ s.windows[w].remoteHas g = true) ∧
        (s.remoteOwner g = none ↔ ∀ w : WinIdx, s.windows[w].state ≠ .off → s.windows[w].remoteHas g = false) ∧
        (WindowsInv s → ∀ w : WinIdx, s.windows[w].state ≠ .off → s.windows[w].remoteHas g = true →
          s.remoteOwner g = some w)) ∧
    ∀ (w : Window) (l : Line), WindowLegal w →
      (w.localHas l.granule = true →
          (w.translate l).toNat + w.localBase * 1024 = l.toNat + w.remoteBase * 1024 ∧
            w.remoteHas (w.translate l).granule = true ∧ w.untranslate (w.translate l) = l) ∧
        (w.remoteHas l.granule = true →
          w.localHas (w.untranslate l).granule = true ∧ w.translate (w.untranslate l) = l)


/-! ### Roles -/

/-- ASSUME_SOURCE by the role in force: BUSY during a loopback test and in DRAINING, no change on a SOURCE, SOURCE at
once from ISOLATED, and from SINK through DRAINING with ACCEPTED, the drain of an empty apply queue ending in the same
step (R154, R156, R160, R161). -/
def Obligations.AssumeSourceFollowsTheRole : Prop :=
  ∀ (echo : Byte) (s : State), Ready s →
    let command := Instr.assumeSource echo []
    (s.link.test.running = true → exec command s = .next (s.reply echo 8 .busy .noReason [])) ∧
      (s.link.test.running = false →
        (s.role = .source → exec command s = .next (s.reply echo 8 .done .noReason [])) ∧
          (s.role = .draining → exec command s = .next (s.reply echo 8 .busy .noReason [])) ∧
          (s.role = .isolated → s.link.state = .down →
            ∃ t, exec command s = .next t ∧
              SameButSettled
                (((s.withRole .source).withService { s.service with override := false }).reply echo 8 .done .noReason [])
                t ∧
              (s.link.signal = .present → t.link.state = .hail ∧ t.link.epoch = nextEpoch s.link.epoch) ∧
              (s.link.signal = .absent → t.link.state = .down ∧ t.link.epoch = s.link.epoch)) ∧
          (s.role = .sink →
            ∃ t, exec command s = .next t ∧ t.windows = s.windows ∧ t.rx.applyQueue = s.rx.applyQueue ∧
              t.port.op = s.port.op ∧ t.service.override = false ∧ t.service.faults = s.service.faults ∧
              t.service.response =
                some { echo := echo, code := 8, status := .accepted, reason := .noReason, results := [] } ∧
              (s.link.state = .up →
                t.rx.ackPending = false ∧ t.rx.nakOutstanding = false ∧ t.rx.nakSlot = none ∧ t.rx.reportQueue = [] ∧
                  t.rx.replyOwed = false) ∧
              (∀ lost,
                lost =
                    (if s.link.state = .up then s.service.events ||| EventCause.linkDown.flag
                    else s.service.events) →
                (s.rx.applyQueue ≠ [] →
                    t.role = .draining ∧ t.link.state = .down ∧ t.link.epoch = s.link.epoch ∧ t.dirty = s.dirty ∧
                      t.service.events = lost) ∧
                  (s.rx.applyQueue = [] →
                    t.role = .source ∧
                      (∀ g, g ∈ t.dirty ↔
                        g ∈ s.dirty ∨ ∃ v : WinIdx, s.windows[v].state ≠ .off ∧ s.windows[v].localHas g = true) ∧
                      t.service.events = lost ||| EventCause.roleDone.flag ∧
                      (s.link.signal = .present → t.link.state = .hail ∧ t.link.epoch = nextEpoch s.link.epoch) ∧
                      (s.link.signal = .absent → t.link.state = .down ∧ t.link.epoch = s.link.epoch)))))

/-- ASSUME_SINK by the role in force: REFUSED VALUE for another force, BUSY during a loopback test and in DRAINING, no
change on a SINK, REFUSED PENDING without force on a SOURCE whose journal holds entries; otherwise the unit becomes
SINK with an empty journal and dirty set, every enabled window suspended with cause ROLE and the held tags answered
UNMIRRORED, their records removed and the tags free (R154, R155, R158, R159). No SWEEP_DONE is raised by a forced discard: that reading of R12 is the model's
(assumption log 13). -/
def Obligations.AssumeSinkFollowsTheRole : Prop :=
  ∀ (echo : Byte) (s : State), Ready s →
    (∀ b : Byte, 1 < b.toNat → exec (.assumeSink echo [b]) s = .next (s.reply echo 9 .refused .value [])) ∧
      ∀ force : Bool,
        let command := Instr.assumeSink echo [if force then 1 else 0]
        (s.link.test.running = true → exec command s = .next (s.reply echo 9 .busy .noReason [])) ∧
          (s.link.test.running = false →
            (s.role = .sink → exec command s = .next (s.reply echo 9 .done .noReason [])) ∧
              (s.role = .draining → exec command s = .next (s.reply echo 9 .busy .noReason [])) ∧
              (s.role = .source → s.journal.entries ≠ [] → force = false →
                exec command s = .next (s.reply echo 9 .refused .pending [])) ∧
              (SessionInv s → s.role = .isolated ∨ s.role = .source ∧ (s.journal.entries = [] ∨ force = true) →
                ∃ t, exec command s = .next t ∧ t.role = .sink ∧ t.dirty = [] ∧ t.journal.entries = [] ∧
                  t.journal.nextSeq = s.journal.nextSeq ∧ t.rx.applyQueue = s.rx.applyQueue ∧
                  t.port.op = s.port.op ∧ t.sweep.position = none ∧
                  (∀ w : WinIdx, t.windows[w] =
                    if s.windows[w].state = .off then s.windows[w]
                    else { s.windows[w] with state := .suspended, cause := .role }) ∧
                  (∀ held : List Tag, held = s.journal.entries.flatMap (·.heldTags) →
                    t.host.held = s.host.held.filter (fun r => r.tag ∉ held) ∧ (TagInv s → t.host.held = []) ∧
                      ∃ more : List HostResponse,
                        t.host.responses =
                          s.host.responses ++ held.map (fun tag => { tag := tag, status := .unmirrored, data := none }) ++
                            more ∧
                          t.host.tags =
                            s.host.tags.filter fun tag => tag ∉ held ∧ tag ∉ more.map HostResponse.tag) ∧
                  t.link.epoch = s.link.epoch ∧ (s.link.signal = .present → t.link.state = .hail) ∧
                  (s.link.signal = .absent → t.link.state = .down) ∧ t.service.override = false ∧
                  t.service.faults = s.service.faults ∧
                  t.service.response =
                    some { echo := echo, code := 9, status := .done, reason := .noReason, results := [] } ∧
                  t.service.events =
                    s.service.events ||| (if s.link.state = .up then EventCause.linkDown.flag else 0) |||
                      (if (List.finRange 16).any (fun w => s.windows[w].capturing) then
                        EventCause.windowSuspended.flag
                      else 0)))

/-- ISOLATE: no change on an ISOLATED unit; from SOURCE the journal is converted into the dirty set and its held tags
answered UNMIRRORED, their records removed and the tags free, from SINK and DRAINING every granule of every enabled window
is marked; the link goes DOWN (R55, R154, R157, R162). -/
def Obligations.IsolateKeepsEveryLineCovered : Prop :=
  ∀ (echo : Byte) (s : State), Ready s →
    let command := Instr.isolate echo []
    (s.role = .isolated → exec command s = .next (s.reply echo 10 .done .noReason [])) ∧
      (SessionInv s → s.role ≠ .isolated →
        ∃ t, exec command s = .next t ∧ t.role = .isolated ∧ t.link.state = .down ∧ t.link.epoch = s.link.epoch ∧
          t.journal.entries = [] ∧ t.journal.nextSeq = s.journal.nextSeq ∧ t.rx.applyQueue = s.rx.applyQueue ∧
          t.port.op = s.port.op ∧
          (∀ w : WinIdx, t.windows[w] =
            if s.windows[w].capturing = true then { s.windows[w] with state := .suspended, cause := .role }
            else s.windows[w]) ∧
          (∀ g, g ∈ t.dirty ↔
            g ∈ s.dirty ∨
              (s.role = .source ∧ ∃ e ∈ s.journal.entries, e.localLine.granule = g ∧
                s.windows[e.window].state ≠ .off ∧ s.windows[e.window].localHas g = true) ∨
              (s.role ≠ .source ∧ ∃ v : WinIdx, s.windows[v].state ≠ .off ∧ s.windows[v].localHas g = true)) ∧
          (∀ held : List Tag, held = s.journal.entries.flatMap (·.heldTags) →
            t.host.held = s.host.held.filter (fun r => r.tag ∉ held) ∧ (TagInv s → t.host.held = []) ∧
              ∃ more : List HostResponse,
                t.host.responses =
                  s.host.responses ++ held.map (fun tag => { tag := tag, status := .unmirrored, data := none }) ++ more ∧
                  t.host.tags = s.host.tags.filter fun tag => tag ∉ held ∧ tag ∉ more.map HostResponse.tag) ∧
          t.service.override = false ∧ t.service.faults = s.service.faults ∧
          t.service.response =
            some { echo := echo, code := 10, status := .done, reason := .noReason, results := [] } ∧
          t.service.events =
            s.service.events ||| (if s.link.state = .up then EventCause.linkDown.flag else 0) |||
              (if (List.finRange 16).any (fun w => s.windows[w].capturing) then EventCause.windowSuspended.flag
              else 0))

/-- At the end of a drain the unit becomes SOURCE with every granule of every enabled window dirty, hails with an
advanced epoch if the signal is PRESENT, and raises ROLE_DONE; in any other state nothing changes. DRAIN_END is that and
nothing else, and so is the drain's end within a step that empties the queue (R161; assumption log 5). The epoch advances
by R161 and R102, also before an ISOLATE that follows, where R162 names ROLE_DONE alone (assumption log 35). -/
def Obligations.DrainEndMakesTheUnitSource : Prop :=
  ∀ s : State,
    (Ready s → exec .drainEnd s = .next s.drainCheck) ∧
      (¬ (s.role = .draining ∧ s.rx.applyQueue = []) → s.drainCheck = s) ∧
      (LinkLegal s → s.link.test.running = false → s.role = .draining → s.rx.applyQueue = [] →
        ∃ t, s.drainCheck = t ∧
          (∀ g, g ∈ t.dirty ↔
            g ∈ s.dirty ∨ ∃ v : WinIdx, s.windows[v].state ≠ .off ∧ s.windows[v].localHas g = true) ∧
          SameButSettled
            ((((s.withRole .source).withDirty t.dirty).withService { s.service with override := false }).raise .roleDone)
            t ∧
          (s.link.signal = .present → t.link.state = .hail ∧ t.link.epoch = nextEpoch s.link.epoch) ∧
          (s.link.signal = .absent → t.link.state = .down ∧ t.link.epoch = s.link.epoch))

/-- RESTART: every block as the warm reset leaves it; the pending set is empty after it. The host queue and the tags are
kept and the held-write table is emptied by the discard, its tags answered UNMIRRORED; of the requests at the head only
those of an empty mask are answered, none if the head stayed before, and the head that stays is READY (R18, R39, R62,
R75, R112, R115, R116, R151, R181). The frame in the test's loop is dropped (assumption log 28), and the sent count keeps
counting it (assumption log 33). -/
def Obligations.RestartIsTheWarmReset : Prop :=
  ∀ (echo : Byte) (s : State), Ready s →
    ∃ t, exec (.restart echo []) s = .next t ∧ t.role = .isolated ∧
      t.link =
        { s.link with
          state := .down, lastReceipt := none, lastHello := none, helloDue := false
          test :=
            if s.link.test.running then
              { s.link.test with running := false, outcome := .aborted, inLoop := none }
            else s.link.test } ∧
      (∀ w : WinIdx, t.windows[w] =
        if s.windows[w].state = .off then s.windows[w]
        else { s.windows[w] with state := .suspended, cause := .restart }) ∧
      (∀ g, g ∈ t.dirty ↔
        g ∈ s.dirty ∨ ∃ v : WinIdx, s.windows[v].state ≠ .off ∧ s.windows[v].localHas g = true) ∧
      t.journal = { entries := [], nextSeq := s.journal.nextSeq, stallStart := none } ∧
      (∀ held : List Tag, held = s.journal.entries.flatMap (·.heldTags) →
        t.host.held = s.host.held.filter (fun r => r.tag ∉ held) ∧ (TagInv s → t.host.held = []) ∧
          ∃ n : Nat,
            t.host.queue = s.host.queue.drop n ∧
              (∀ r ∈ s.host.queue.take n, ∃ data poisoned, r.op = .write 0 data poisoned) ∧
              (Settled s → t.host.queue = s.host.queue) ∧
              t.host.responses =
                s.host.responses ++ held.map (fun tag => { tag := tag, status := .unmirrored, data := none }) ++
                  (s.host.queue.take n).map (fun r => { tag := r.tag, status := .okay, data := none }) ∧
              t.host.tags =
                s.host.tags.filter fun tag =>
                  tag ∉ held ∧ tag ∉ (s.host.queue.take n).map QueuedRequest.tag) ∧
      (∀ c, t.headCondition = some c → c = .ready) ∧
      t.port.passedOver = 0 ∧
      t.port.op =
        (s.port.op.map fun o =>
          { o with
            owner :=
              match o.owner with
              | .host tag grant => .host tag grant
              | .sweep w _ => .sweep w true
              | .apply e w _ => .apply e w true }) ∧
      t.sweep = { position := none, inFlight := s.sweep.inFlight.map fun r => { r with current := false } } ∧
      t.seq = { ackStart := none, lastSend := none, rounds := 0, processed := 0, confirmedMark := MarkRecord.reset } ∧
      t.rx =
        { s.rx with
          nakOutstanding := false, nakSlot := none, ackPending := false, replyOwed := false, applyQueue := []
          reportQueue := [], appliedMark := MarkRecord.reset } ∧
      t.service =
        { s.service with
          events := 0, override := false
          response := some { echo := echo, code := 19, status := .done, reason := .noReason, results := [] } } ∧
      t.time = s.time ∧ t.host.resetLine = s.host.resetLine ∧ t.coldPin = false ∧ t.pending = s.pending


/-! ### The loopback test -/

/-- LINK_TEST applies its checks in their order and begins with the frame of pattern number 0 in the loop; each
returned frame is counted good or damaged, the next one is sent, and the last one completes the test with TEST_DONE
(R113, R114). That the first frame is sent in the step of LINK_TEST is the model's reading (assumption log 18), and that a
frame begun before stays on the outbound lane during the test its choice (assumption log 34). -/
def Obligations.LoopbackTestCountsEveryFrame : Prop :=
  (∀ (echo : Byte) (n : BitVec 16) (s : State), Ready s →
      let command := Instr.linkTest echo (beBytes 2 n.toNat)
      (n = 0 → exec command s = .next (s.reply echo 18 .refused .value [])) ∧
        (n ≠ 0 → s.role ≠ .isolated → exec command s = .next (s.reply echo 18 .refused .role [])) ∧
        (n ≠ 0 → s.role = .isolated → s.link.test.running = true →
          exec command s = .next (s.reply echo 18 .busy .noReason [])) ∧
        (n ≠ 0 → s.role = .isolated → s.link.test.running = false →
          exec command s =
            .next
              ((s.withLink
                  { s.link with
                    test :=
                      { running := true, requested := n, sent := 1, good := 0, damaged := 0, outcome := .noOutcome
                        inLoop := some 0 } }).reply
                echo 18 .accepted .noReason []))) ∧
    ∀ (bytes : List Byte) (s : State), Ready s →
      (s.link.test.inLoop = none → exec (.testFrameReturn bytes) s = .next s) ∧
        ∀ k : BitVec 16, s.link.test.inLoop = some k →
          let payload : LineData := Vector.ofFn fun i => BitVec.ofNat 8 ((k.toNat * 64 + i.val) * 173)
          let good := Frame.ofBytes bytes = some (.test k payload)
          ∃ t, exec (.testFrameReturn bytes) s = .next t ∧
            (good → t.link.test.good = s.link.test.good + 1 ∧ t.link.test.damaged = s.link.test.damaged) ∧
            (¬ good → t.link.test.damaged = s.link.test.damaged + 1 ∧ t.link.test.good = s.link.test.good) ∧
            (k + 1 = s.link.test.requested →
              t =
                (s.withLink
                    { s.link with
                      test :=
                        { t.link.test with
                          running := false, outcome := .complete, inLoop := none, sent := s.link.test.sent
                          requested := s.link.test.requested } }).raise
                  .testDone) ∧
            (k + 1 ≠ s.link.test.requested → s.link.test.sent = k + 1 →
              t =
                s.withLink
                  { s.link with
                    test :=
                      { s.link.test with
                        good := t.link.test.good, damaged := t.link.test.damaged, sent := k + 2
                        inLoop := some (k + 1) } })


/-! ### The host port -/

/-- A host write has the class of R9: by its owning window, the role, the window's state and the fence override. The
condition of a request at the head: a read is held by a hazard exactly on a SINK or DRAINING unit whose apply queue
targets its line; an empty-mask write is answered OKAY and a FENCE write FENCED; a CAPTURE write without room is
STALLED; every other request is READY (R25, R26, R47, R59). The head condition is that of the first request of the queue,
and there is none with an empty queue (R46). -/
def Obligations.HostHeadFollowsTheTables : Prop :=
  (∀ s : State, s.headCondition = s.host.queue.head?.map s.condition) ∧
    (∀ (s : State) (line : Line),
        (s.owner line.granule = none → s.classify line = .pass) ∧
          ∀ w, s.owner line.granule = some w →
            (s.role = .source → s.windows[w].state = .suspended → s.classify line = .track w) ∧
              (s.role = .source → s.windows[w].state = .sweeping ∨ s.windows[w].state = .mirroring →
                s.classify line = .capture w) ∧
              (s.role = .isolated → s.classify line = .track w) ∧
              (s.role = .sink ∨ s.role = .draining → s.service.override = false → s.classify line = .fence) ∧
              (s.role = .sink ∨ s.role = .draining → s.service.override = true → s.classify line = .pass)) ∧
    ∀ (s : State) (r : QueuedRequest),
      (r.op = .read →
          ((s.role = .sink ∨ s.role = .draining) ∧ (∃ e ∈ s.rx.applyQueue, e.target = r.line) →
            s.condition r = .hazard) ∧
          (¬ ((s.role = .sink ∨ s.role = .draining) ∧ ∃ e ∈ s.rx.applyQueue, e.target = r.line) →
            s.condition r = .ready)) ∧
        ∀ mask data poisoned, r.op = .write mask data poisoned →
          (mask = 0 → s.condition r = .answered .okay) ∧
            (mask ≠ 0 → s.classify r.line = .fence → s.condition r = .answered .fenced) ∧
            (mask ≠ 0 → s.classify r.line = .pass → s.condition r = .ready) ∧
            (∀ w, mask ≠ 0 → s.classify r.line = .track w → s.condition r = .ready) ∧
            ∀ w, mask ≠ 0 → s.classify r.line = .capture w →
              ∀ mergeable : Prop,
                (mergeable ↔
                    s.windows[w].kind = .mirror ∧ poisoned = false ∧
                      ∃ e, s.journal.entries.getLast? = some e ∧ e.kind = .update ∧ e.everSent = false ∧
                        e.poison = false ∧ e.heldTags.length < 16 ∧ e.window = w ∧ e.localLine = r.line ∧
                        e.target = s.windows[w].translate r.line) →
                  (mergeable ∨ s.journal.entries.length < 512 → s.condition r = .ready) ∧
                    (¬ mergeable → 512 ≤ s.journal.entries.length → s.condition r = .stalled)

/-- HOST_REQUEST: refused without a trace while the reset line is asserted; discarded with fault HOST_TAG if its tag is
in use; otherwise its tag joins the set and it joins the tail of the queue, a write with even parity on a masked byte
as poisoned and with fault POISON_WRITE (R43, R48, R61). Behind a head that stays nothing else happens. -/
def Obligations.HostRequestIsAcceptedOrDiscarded : Prop :=
  ∀ (r : HostRequest) (s : State), Ready s →
    (s.host.resetLine = true → exec (.hostRequest r) s = .next s) ∧
      (s.host.resetLine = false → r.tag ∈ s.host.tags →
        exec (.hostRequest r) s =
          .next (s.offerFault .hostTag (s.owner r.line.granule) (some r.line) none none)) ∧
      (s.host.resetLine = false → r.tag ∉ s.host.tags →
        ∃ (t u : State) (q : QueuedRequest),
          exec (.hostRequest r) s = .next t ∧ q.tag = r.tag ∧ q.line = r.line ∧
            (r.op = .read → q.op = .read ∧ u.service = s.service) ∧
            (∀ mask data parity, r.op = .write mask data parity →
              ∃ poisoned, q.op = .write mask data poisoned ∧
                (poisoned = true ↔ ∃ i : Fin 64, mask.getLsbD i = true ∧
                  ((List.range 8).countP (data[i].getLsbD ·) + (parity.getLsbD i).toNat) % 2 = 0) ∧
                u.service =
                  if poisoned then
                    (s.offerFault .poisonWrite (s.owner r.line.granule) (some r.line) none none).service
                  else s.service) ∧
            u =
              (s.withService u.service).withHost
                { s.host with queue := s.host.queue ++ [q], tags := u.host.tags } ∧
            (∀ a, a ∈ u.host.tags ↔ a = r.tag ∨ a ∈ s.host.tags) ∧ t = u.settle ∧
            (Settled s → s.host.queue ≠ [] → t = u))

/-- What follows at once: the requests whose condition is to be answered at the head leave the queue one after another,
each with the status of its condition, until a head stays; the stall start stands exactly while the head lacks room; the
sweep engine without a position takes the lowest dirty granule of the lowest-indexed SWEEPING window; the passed-over
count is 0 while the internal side has nothing to request; HAIL is entered, and a free lane takes its next frame: on a
SOURCE in UP the entry at the send cursor if it may go out, on a SINK in UP the first of REPORT, NAK, ACK and the reply,
in HAIL the HELLO that is owed (R23, R33, R47, R56, R71, R84, R103, R118, R120, R147). That all this is done at the end of
a step, and the count is cleared there, is the model's reading (assumption log 16 and 17). A PROBE is no part of it. -/
def Obligations.SettlingFollowsTheRules : Prop :=
  ∀ s : State,
    (∀ st, s.settle.headCondition ≠ some (.answered st)) ∧
      (∃ (n : Nat) (status : QueuedRequest → HostStatus),
        (∀ r ∈ s.host.queue.take n, s.condition r = .answered (status r)) ∧
          (∀ r rest, s.host.queue.drop n = r :: rest → ∀ st, s.condition r ≠ .answered st) ∧
          s.settle.host.queue = s.host.queue.drop n ∧
          s.settle.host.responses =
            s.host.responses ++
              (s.host.queue.take n).map (fun r => { tag := r.tag, status := status r, data := none }) ∧
          s.settle.host.tags =
            s.host.tags.filter fun tag => tag ∉ (s.host.queue.take n).map QueuedRequest.tag) ∧
      s.settle.journal.stallStart =
        (if s.settle.headCondition = some .stalled then some (s.journal.stallStart.getD s.time) else none) ∧
      (∀ p, s.sweep.position = some p → s.settle.sweep.position = some p) ∧
      (s.sweep.position = none → s.dirty.Pairwise (· < ·) →
        (∀ p, s.settle.sweep.position = some p →
            p.nextLine = 0 ∧ p.granule ∈ s.dirty ∧ s.windows[p.window].state = .sweeping ∧
              s.windows[p.window].localHas p.granule = true ∧
              (∀ g ∈ s.dirty, s.windows[p.window].localHas g = true → p.granule ≤ g) ∧
              ∀ v : WinIdx, v < p.window → s.windows[v].state = .sweeping →
                ∀ g ∈ s.dirty, s.windows[v].localHas g = false) ∧
          (s.settle.sweep.position = none →
            ∀ v : WinIdx, s.windows[v].state = .sweeping → ∀ g ∈ s.dirty, s.windows[v].localHas g = false)) ∧
      (s.settle.internalStands = false → s.settle.port.passedOver = 0) ∧
      (s.settle.internalStands = true → s.settle.port.passedOver = s.port.passedOver) ∧
      ∀ u : State, u = s.enterHail →
          let leaves := fun (link : Link) (entries : List JournalEntry) (seq : Sequencer) (rx : Receiver) =>
            s.settle.link = link ∧ s.settle.journal.entries = entries ∧ s.settle.seq = seq ∧ s.settle.rx = rx
          let unchanged := leaves u.link s.journal.entries s.seq s.rx
          let sends := fun (f : Frame) (rx : Receiver) =>
            leaves { u.link with lane := some f } s.journal.entries s.seq rx
          let hails := fun f : Frame =>
            leaves { u.link with lane := some f, helloDue := false, lastHello := some s.time } s.journal.entries s.seq s.rx
          (s.link.lane ≠ none → unchanged) ∧
            (s.role = .isolated ∨ s.role = .draining ∨ u.link.state = .down ∨ u.link.state = .clash → unchanged) ∧
            (s.link.lane = none →
              (u.link.state = .up → s.role = .source →
                (∀ front e rest, s.journal.entries = front ++ e :: rest → (∀ x ∈ front, x.sent = true) →
                    e.sent = false → e.isOpen = false → s.journal.entries.countP (·.sent) < 32 →
                  leaves
                    { u.link with
                      lane :=
                        some
                          (.data
                            { kind := e.kind, epoch := u.link.epoch, seq := e.seq, window := e.window
                              target := e.target, mask := e.mask, poison := e.poison, data := e.data }) }
                    (front ++ { e with sent := true, everSent := true } :: rest)
                    { s.seq with
                      lastSend := some s.time
                      ackStart := if s.journal.entries.countP (·.sent) = 0 then some s.time else s.seq.ackStart }
                    s.rx) ∧
                  ((∀ e, s.journal.entries.find? (fun x => !x.sent) = some e →
                      e.isOpen = true ∨ 32 ≤ s.journal.entries.countP (·.sent)) →
                    unchanged)) ∧
                (u.link.state = .hail → s.role = .source →
                  (u.link.helloDue = true → hails (.hello (.source u.link.epoch s.journal.nextSeq))) ∧
                    (u.link.helloDue = false → unchanged)) ∧
                (u.link.state = .hail → s.role = .sink →
                  (u.link.helloDue = true → s.rx.applyQueue.length ≤ 16 → hails (.hello (.sink u.link.epoch))) ∧
                    (u.link.helloDue = false ∨ 16 < s.rx.applyQueue.length → unchanged)) ∧
                (u.link.state = .up → s.role = .sink →
                  (∀ r rest, s.rx.reportQueue = r :: rest → sends (.report r) { s.rx with reportQueue := rest }) ∧
                    (s.rx.reportQueue = [] →
                      (∀ reason, s.rx.nakSlot = some reason →
                          sends (.nak u.link.epoch s.rx.expected reason) { s.rx with nakSlot := none }) ∧
                        (s.rx.nakSlot = none →
                          (s.rx.ackPending = true →
                              sends (.ack u.link.epoch s.rx.lastApplied s.rx.applyFaults)
                                { s.rx with ackPending := false }) ∧
                            (s.rx.ackPending = false →
                              (s.rx.replyOwed = true →
                                  sends (.hello (.sink u.link.epoch)) { s.rx with replyOwed := false }) ∧
                                (s.rx.replyOwed = false → unchanged))))))

/-- HOST_PORT_RESET empties the queue, the held-write table, every held-tag list and the tags, clears the stall start
and drops the tag of a host operation on the port, all without an answer; a line that stays asserted does nothing more;
the release lets requests in again. While the cold reset pin is asserted the assertion changes the level alone (R40, R61,
R184). -/
def Obligations.HostPortResetDropsEveryTag : Prop :=
  ∀ s : State,
    (s.host.resetLine = true → s.coldPin = true ∨ Ready s → exec .hostPortReset s = .next s) ∧
      (s.coldPin = true → exec .hostPortReset s = .next (s.withHost { s.host with resetLine := true })) ∧
      (Ready s → s.host.resetLine = false →
        exec .hostPortReset s =
          .next
            (((s.withHost { queue := [], held := [], tags := [], resetLine := true, responses := s.host.responses }).withJournal
                { entries := s.journal.entries.map fun e => { e with heldTags := [] }
                  nextSeq := s.journal.nextSeq
                  stallStart := none }).withPort
              { s.port with
                op :=
                  s.port.op.map fun o =>
                    { o with
                      owner :=
                        match o.owner with
                        | .host _ grant => .host none grant
                        | .sweep w d => .sweep w d
                        | .apply e w d => .apply e w d } })) ∧
      (s.coldPin = true ∨ Ready s →
        exec .hostPortResetRelease s = .next (s.withHost { s.host with resetLine := false }))


/-! ### The memory port -/

/-- The candidates of the arbiter: the apply head while the engine presents it, the sweep engine while it has a line to
read and the host reserve stays free (R32, R68, R85, R140). PORT_GRANT: no grant at a busy port or with no candidate;
otherwise the first row of the arbiter's table that applies names the owner granted and the passed-over count after it
(R64, R70, R71). A grant is due at an idle port with a candidate standing, and is made at once: every command, PORT_GRANT
itself among them, comes after every examination of the apply head that is due, and finds the grant made (R69, R140;
assumption log 29). -/
def Obligations.ArbiterGrantsByItsRows : Prop :=
  (∀ s : State,
      (s.applyCandidate = true ↔
          ∃ e rest, s.rx.applyQueue = e :: rest ∧ s.headOnPort = false ∧ s.rx.reportQueue.length < 8 ∧ e.mask ≠ 0 ∧
            ∃ w, s.owner e.target.granule = some w) ∧
        (s.sweepCandidate = true ↔
          s.role = .source ∧ (∃ p, s.sweep.position = some p) ∧ s.sweep.inFlight = none ∧
            s.journal.entries.length ≤ 447)) ∧
    (∀ s : State,
      (s.grantDue = true ↔
          s.port.op = none ∧ (s.headCondition = some .ready ∨ s.applyCandidate = true ∨ s.sweepCandidate = true)) ∧
        (s.examineDue = true ↔
          ∃ e rest, s.rx.applyQueue = e :: rest ∧ s.headOnPort = false ∧ s.rx.reportQueue.length < 8 ∧
            (e.mask = 0 ∨ s.owner e.target.granule = none)) ∧
        (Ready s → s.prompt = s) ∧
        (s.coldPin = false →
          exec .portGrant s = .next s.prompt ∧
            (s.examineDue = true → ∃ u, exec .applyHeadExamine s = .next u ∧ s.prompt = u.prompt) ∧
            (Settled s → Ready s.prompt ∧ ∀ c : Instr, c ≠ .applyHeadExamine → exec c s = exec c s.prompt))) ∧
    ∀ s : State, s.coldPin = false → s.examineDue = false →
      let apply := s.applyCandidate = true
      let internal := s.applyCandidate = true ∨ s.sweepCandidate = true
      let host := s.headCondition = some .ready
      let urgent := apply ∧ (s.headCondition = some .hazard ∨ 40 ≤ s.rx.applyQueue.length)
      (s.port.op ≠ none → exec .portGrant s = .next s) ∧
        (s.port.op = none →
          (urgent → exec .portGrant s = .next ((s.grantTo .apply).withPassedOver 0).settle) ∧
            (¬ urgent → host → ¬ internal → exec .portGrant s = .next ((s.grantTo .host).withPassedOver 0).settle) ∧
            (¬ urgent → host → internal → s.port.passedOver < 4 →
              exec .portGrant s = .next ((s.grantTo .host).withPassedOver (s.port.passedOver + 1)).settle) ∧
            (¬ urgent → host → internal → 4 ≤ s.port.passedOver → apply →
              exec .portGrant s = .next ((s.grantTo .apply).withPassedOver 0).settle) ∧
            (¬ urgent → host → internal → 4 ≤ s.port.passedOver → ¬ apply →
              exec .portGrant s = .next ((s.grantTo .sweep).withPassedOver 0).settle) ∧
            (¬ urgent → ¬ host → internal → apply →
              exec .portGrant s = .next ((s.grantTo .apply).withPassedOver 0).settle) ∧
            (¬ urgent → ¬ host → internal → ¬ apply →
              exec .portGrant s = .next ((s.grantTo .sweep).withPassedOver 0).settle) ∧
            (¬ host → ¬ internal → exec .portGrant s = .next s))

/-- The grant of the host head: it leaves the queue and goes on the port with its tag, the stall start is cleared; a
TRACK write marks its granule dirty; a CAPTURE write merges into the tail by R26 or is appended as a new open entry of
the kind of its window; nothing else changes (R26, R27, R58, R63, R72). The grant of a sweep read records it in flight
as current and reads the position's next line. The grant of the apply head writes its target line with its mask, data
and poison and leaves it in the queue; on a SOURCE or ISOLATED unit its granule is marked dirty for the owning window,
which is suspended with cause ROLE if it was capturing (R10, R72, R85, R141). -/
def Obligations.GrantsStartTheOperation : Prop :=
  (∀ (s : State) (r : QueuedRequest) (rest : List QueuedRequest), s.host.queue = r :: rest →
      let u := (s.withHost { s.host with queue := rest }).withJournal { s.journal with stallStart := none }
      let put := fun (v : State) (access : Access) (grant : HostGrant) =>
        v.withPort { s.port with op := some { line := r.line, access := access, owner := .host (some r.tag) grant } }
      (r.op = .read → s.grantTo .host = put u .read .read) ∧
        ∀ mask data poisoned, r.op = .write mask data poisoned →
          (s.classify r.line = .pass → s.grantTo .host = put u (.write mask data poisoned) .pass) ∧
            (∀ w, s.classify r.line = .track w →
              s.grantTo .host = put (u.markDirty w r.line.granule) (.write mask data poisoned) .track) ∧
            ∀ w, s.classify r.line = .capture w →
              ∀ mergeable : JournalEntry → Prop,
                (∀ e, mergeable e ↔
                  s.windows[w].kind = .mirror ∧ poisoned = false ∧ e.kind = .update ∧ e.everSent = false ∧
                    e.poison = false ∧ e.heldTags.length < 16 ∧ e.window = w ∧ e.localLine = r.line ∧
                    e.target = s.windows[w].translate r.line) →
              (∀ front e, s.journal.entries = front ++ [e] → mergeable e →
                  s.grantTo .host =
                    put
                      (u.withJournal
                        { u.journal with
                          entries :=
                            front ++
                              [{ e with
                                  data := Vector.ofFn fun i => if mask.getLsbD i then data[i] else e.data[i]
                                  mask := e.mask ||| mask
                                  isOpen := true }] })
                      (.write mask data poisoned) (.capture s.windows[w].cls e.seq)) ∧
                ((∀ front e, s.journal.entries = front ++ [e] → ¬ mergeable e) →
                  s.grantTo .host =
                    put
                      (u.withJournal
                        { u.journal with
                          entries :=
                            s.journal.entries ++
                              [{ seq := s.journal.nextSeq
                                 kind := if s.windows[w].kind = .mirror then .update else .mark
                                 window := w
                                 localLine := r.line
                                 target := s.windows[w].translate r.line
                                 mask := mask
                                 data := data
                                 poison := poisoned
                                 heldTags := []
                                 sent := false
                                 reported := false
                                 everSent := false
                                 isOpen := true }]
                          nextSeq := s.journal.nextSeq + 1 })
                      (.write mask data poisoned) (.capture s.windows[w].cls s.journal.nextSeq))) ∧
    (∀ (s : State) (p : SweepPosition), s.sweep.position = some p →
        s.grantTo .sweep =
          (s.withSweep
              { s.sweep with
                inFlight := some { window := p.window, granule := p.granule, line := p.nextLine, current := true } }).withPort
            { s.port with
              op :=
                some
                  { line := BitVec.ofNat 34 (p.granule * 1024 + p.nextLine.toNat), access := .read
                    owner := .sweep p.window false } }) ∧
      ∀ (s : State) (e : ApplyEntry) (rest : List ApplyEntry), s.rx.applyQueue = e :: rest →
        let put := fun v : State =>
          v.withPort
            { s.port with
              op :=
                some
                  { line := e.target, access := .write e.mask e.data e.poison
                    owner := .apply e (s.owner e.target.granule) false } }
        (s.role = .sink ∨ s.role = .draining → s.grantTo .apply = put s) ∧
          (s.role = .source ∨ s.role = .isolated →
            (s.owner e.target.granule = none → s.grantTo .apply = put s) ∧
              ∀ w, s.owner e.target.granule = some w →
                (s.windows[w].capturing = false → s.grantTo .apply = put (s.markDirty w e.target.granule)) ∧
                  (s.windows[w].capturing = true →
                    s.grantTo .apply = put ((s.suspendWindow w .role).markDirty w e.target.granule)))

/-- The completion of a host read answers OKAY or POISONED with the data returned and their generated parity, or
MEMORY_ERROR without data, frees the tag and idles the port; a dropped tag gives no answer; a completion at an idle
port is ignored (R49, R65). The completion of a host write: MEMORY_ERROR on ERROR, POISONED if it was parity-poisoned,
OKAY otherwise. A captured write closes its entry, poisoned on ERROR; one of a HELD window completing OK and not
poisoned is held with its entry, or answered UNMIRRORED if the entry has gone; a dropped tag gives no answer and no
record (R28, R29, R50, R51). The commit class is the one stored at the grant, the model's choice (assumption log 12). -/
def Obligations.HostCompletionsAnswer : Prop :=
  (∀ (s : State) (c : Completion), Ready s →
      (s.port.op = none → exec (.memoryCompletion c) s = .next s) ∧
        ∀ line tag grant, Settled s →
          s.port.op = some { line := line, access := .read, owner := .host tag grant } →
            let u := s.withPort { s.port with op := none }
            (tag = none → exec (.memoryCompletion c) s = .next u) ∧
              ∀ a, tag = some a →
                (c = .error → exec (.memoryCompletion c) s = .next (u.answer a .memoryError none)) ∧
                  ∀ data poison, c = .ok data poison →
                    ∃ parity : BitVec 64,
                      (∀ i : Fin 64,
                          ((List.range 8).countP (data[i].getLsbD ·) + (parity.getLsbD i).toNat) % 2 = 1) ∧
                        exec (.memoryCompletion c) s =
                          .next
                            (u.answer a (if poison then .poisoned else .okay)
                              (some { bytes := data, parity := parity }))) ∧
    ∀ (s : State) (c : Completion) (line : Line) (mask : Mask) (data : LineData) (poisoned : Bool) (tag : Option Tag)
      (grant : HostGrant), Ready s →
      s.port.op = some { line := line, access := .write mask data poisoned, owner := .host tag grant } →
        let ok := c ≠ Completion.error
        let u := s.withPort { s.port with op := none }
        let closed := fun (q : Seq) (more : List Tag) =>
          u.withJournal
            { s.journal with
              entries :=
                s.journal.entries.map fun e =>
                  if e.seq = q ∧ e.isOpen = true then
                    { e with
                      isOpen := false, poison := if c = Completion.error then true else e.poison, heldTags := e.heldTags ++ more }
                  else e }
        let answered := fun v : State =>
          match tag with
          | none => v
          | some a => v.answer a (if c = Completion.error then .memoryError else if poisoned then .poisoned else .okay) none
        (grant = .pass ∨ grant = .track → exec (.memoryCompletion c) s = .next (answered u).settle) ∧
          ∀ cls q, grant = .capture cls q →
            (¬ (cls = .held ∧ ok ∧ poisoned = false) →
                exec (.memoryCompletion c) s = .next (answered (closed q [])).settle) ∧
              (cls = .held → ok → poisoned = false →
                (tag = none → exec (.memoryCompletion c) s = .next (closed q []).settle) ∧
                  ∀ a, tag = some a →
                    ((∃ e ∈ s.journal.entries, e.seq = q ∧ e.isOpen = true) →
                        exec (.memoryCompletion c) s =
                          .next
                            ((closed q [a]).withHost
                                { s.host with
                                  held := s.host.held ++ [{ tag := a, seq := q, start := s.time }] }).settle) ∧
                      (¬ (∃ e ∈ s.journal.entries, e.seq = q ∧ e.isOpen = true) →
                        exec (.memoryCompletion c) s = .next (u.answer a .unmirrored none).settle))

/-- The completion of a sweep read: the read is no longer in flight; on ERROR fault MEMORY_ERROR is recorded; if the
window is SWEEPING and holds the line, a SWEEP entry joins the journal, with zeros and poison on ERROR; a current read
moves the position to the next line, or after line 1023 takes the granule out of the dirty set and makes the R12 test;
a read that a warm reset overtook does nothing more (R30, R75, R86, R87). -/
def Obligations.SweepCompletionAppendsTheLine : Prop :=
  ∀ (s : State) (c : Completion) (line : Line) (w : WinIdx) (discarded : Bool), Ready s →
    s.port.op = some { line := line, access := .read, owner := .sweep w discarded } →
      let idle := (s.withPort { s.port with op := none }).withSweep { s.sweep with inFlight := none }
      let u := if c = Completion.error then idle.offerFault .memoryError (some w) (some line) none none else idle
      let entry : JournalEntry :=
        { seq := s.journal.nextSeq, kind := .sweep, window := w, localLine := line
          target := s.windows[w].translate line, mask := BitVec.allOnes 64
          data :=
            match c with
            | .ok data _ => data
            | .error => Vector.replicate 64 0
          poison :=
            match c with
            | .ok _ poison => poison
            | .error => true
          heldTags := [], sent := false, reported := false, everSent := false, isOpen := false }
      let v :=
        u.withJournal { s.journal with entries := s.journal.entries ++ [entry], nextSeq := s.journal.nextSeq + 1 }
      let taken := s.windows[w].state = .sweeping ∧ s.windows[w].localHas line.granule = true
      let current := ∃ r, s.sweep.inFlight = some r ∧ r.current = true
      (discarded = true → exec (.memoryCompletion c) s = .next idle.settle) ∧
        (discarded = false → ¬ taken → exec (.memoryCompletion c) s = .next u.settle) ∧
        (discarded = false → taken → ¬ current → exec (.memoryCompletion c) s = .next v.settle) ∧
        (discarded = false → taken → current → ∀ p, s.sweep.position = some p →
          (p.nextLine ≠ 1023 →
              exec (.memoryCompletion c) s =
                .next (v.withSweep { position := some { p with nextLine := p.nextLine + 1 }, inFlight := none }).settle) ∧
            (p.nextLine = 1023 →
              exec (.memoryCompletion c) s =
                .next
                  ((((v.withDirty (s.dirty.filter fun g => g ≠ p.granule)).withSweep
                          { position := none, inFlight := none }).sweepTest
                      w).settle)))


/-! ### Journal, timers and link -/

/-- STALL_EXPIRY: when the head CAPTURE write has lacked room for tSTALL, every capturing window is suspended with
cause OVERFLOW, fault OVERFLOW names the head write's window and line, STALL_OVERFLOW is raised and the statistic
counts one; the journal keeps its entries; before that nothing happens (R33, R34). -/
def Obligations.StallExpirySuspendsCapture : Prop :=
  ∀ s : State, Ready s →
    (∀ due : Prop,
      (due ↔
          s.headCondition = some .stalled ∧
            ∃ start, s.journal.stallStart = some start ∧ s.service.timers.tStall ≤ (s.time - start).toNat) →
      (¬ due → exec .stallExpiry s = .next s) ∧
        (due → ∀ (r : QueuedRequest) (rest : List QueuedRequest) (w : WinIdx),
          s.host.queue = r :: rest → s.classify r.line = .capture w →
            ∃ t, exec .stallExpiry s = .next t ∧
              (∀ v : WinIdx, t.windows[v] =
                if s.windows[v].capturing then { s.windows[v] with state := .suspended, cause := .overflow }
                else s.windows[v]) ∧
              t.sweep =
                { position := none, inFlight := s.sweep.inFlight.map fun x => { x with current := false } } ∧
              t.journal.stallStart = none ∧ t.host.queue = s.host.queue ∧ t.host.responses = s.host.responses ∧
              t.dirty = s.dirty ∧ t.journal.entries.length = s.journal.entries.length ∧
              (s.link.lane ≠ none → t.journal.entries = s.journal.entries) ∧
              t.service.stats =
                { s.service.stats with
                  overflowSuspensions :=
                    if s.service.stats.overflowSuspensions = 0xFFFFFFFF then 0xFFFFFFFF
                    else s.service.stats.overflowSuspensions + 1 } ∧
              t.service.events =
                s.service.events ||| EventCause.windowSuspended.flag ||| EventCause.faultLogged.flag |||
                  EventCause.stallOverflow.flag ∧
              (s.service.faults.length < 8 →
                t.service.faults =
                  s.service.faults ++
                    [{ kind := .overflow, time := s.time, window := some w, line := some r.line, seq := none
                       epoch := none }]) ∧
              (8 ≤ s.service.faults.length → t.service.faults = s.service.faults ∧ t.service.overrun = true)))

/-- HOLD_EXPIRY: when the held record of the tag has reached age tHELD, the tag is answered UNMIRRORED, its record
removed, the tag taken off the list of the entry that holds it, HOLD_EXPIRED raised and the expiry counted; the entry
stays; before that nothing happens. The command is that and nothing else (R37, R54). -/
def Obligations.HoldExpiryReleasesTheTag : Prop :=
  ∀ (tag : Tag) (s : State),
    (Ready s → exec (.holdExpiry tag) s = .next (s.expireHold tag)) ∧
      ((∀ r ∈ s.host.held, r.tag = tag → (s.time - r.start).toNat < s.service.timers.tHeld) →
        s.expireHold tag = s) ∧
      ∀ r, r ∈ s.host.held → r.tag = tag → (∀ x ∈ s.host.held, x.tag = tag → x = r) →
        s.service.timers.tHeld ≤ (s.time - r.start).toNat →
          s.expireHold tag =
              ((((s.withHost
                      { s.host with
                        held := s.host.held.filter fun x => x.tag ≠ tag
                        tags := s.host.tags.filter fun x => x ≠ tag
                        responses := s.host.responses ++ [{ tag := tag, status := .unmirrored, data := none }] }).withJournal
                    { s.journal with
                      entries :=
                        s.journal.entries.map fun e =>
                          if e.seq = r.seq then { e with heldTags := e.heldTags.filter fun x => x ≠ tag } else e }).withService
                { s.service with
                  events := s.service.events ||| EventCause.holdExpired.flag
                  stats :=
                    { s.service.stats with
                      holdExpiries :=
                        if s.service.stats.holdExpiries = 0xFFFFFFFF then 0xFFFFFFFF
                        else s.service.stats.holdExpiries + 1 } }).settle)

/-- The position of a sequence number is the first of the five that fits: OLD behind the head position, IN FLIGHT at a
SENT entry, AT SEND at the send position, WAITING at another WAITING entry, BEYOND otherwise (R117). -/
def Obligations.SequencePositionsAreTheFirstThatFits : Prop :=
  ∀ (j : Journal) (q : Seq),
    let head := match j.entries with
      | [] => j.nextSeq
      | e :: _ => e.seq
    let old := 32768 ≤ (q - head).toNat
    let sent := ∃ e ∈ j.entries, e.sent = true ∧ e.seq = q
    (old → j.place q = .old) ∧
      (∀ k, j.place q = .inFlight k →
        ¬ old ∧ ∃ e, j.entries[k]? = some e ∧ e.sent = true ∧ e.seq = q ∧
          ∀ i < k, ∀ x, j.entries[i]? = some x → ¬ (x.sent = true ∧ x.seq = q)) ∧
      (¬ old → sent → ∃ k, j.place q = .inFlight k) ∧
      (¬ old → ¬ sent →
        (q = j.sendPosition → j.place q = .atSend) ∧
          (q ≠ j.sendPosition → (∃ e ∈ j.entries, e.sent = false ∧ e.seq = q) → j.place q = .waiting) ∧
          (q ≠ j.sendPosition → (∀ e ∈ j.entries, e.seq ≠ q) → j.place q = .beyond)) ∧
      ((∀ e ∈ j.entries, e.sent = true) → j.sendPosition = j.nextSeq) ∧
      ∀ front e rest, j.entries = front ++ e :: rest → (∀ x ∈ front, x.sent = true) → e.sent = false →
        j.sendPosition = e.seq

/-- ACK_TIMER_EXPIRY asks for a rewind to the head when the acknowledgment timer of a SOURCE in UP has reached tACK,
and PROBE_IDLE_EXPIRY sends a PROBE when its idle time has reached tPROBE with the lane free and nothing to send;
otherwise neither does anything (R118, R119, R120). A rewind asked for to the entry at index k takes place while the
rounds count plus one is at most the round limit: the entry and every newer one return to WAITING, the rounds count and
the statistic rise by one, and the ack start is set, or none for a rewind to the head. Above the limit fault ROUNDS is
recorded and link loss taken (R24, R120, R122). -/
def Obligations.SequencerTimersAndRewinds : Prop :=
  (∀ s : State, Ready s →
      (s.inSession → (∃ start, s.seq.ackStart = some start ∧ s.service.timers.tAck ≤ (s.time - start).toNat) →
          exec .ackTimerExpiry s = .next (s.askRewind 0).settle) ∧
        (¬ (s.inSession ∧ ∃ start, s.seq.ackStart = some start ∧ s.service.timers.tAck ≤ (s.time - start).toNat) →
          exec .ackTimerExpiry s = .next s) ∧
        ∀ blocked : Prop,
          (blocked ↔
              ∀ e, s.journal.entries.find? (fun x => !x.sent) = some e →
                e.isOpen = true ∨ 32 ≤ s.journal.entries.countP (·.sent)) →
          (Settled s → s.inSession → s.link.lane = none → blocked →
              (∃ start, s.seq.lastSend = some start ∧ s.service.timers.tProbe ≤ (s.time - start).toNat) →
              exec .probeIdleExpiry s =
                .next
                  ((s.withLink { s.link with lane := some (.probe s.link.epoch) }).withSeq
                    { s.seq with lastSend := some s.time })) ∧
            (¬ (s.inSession ∧ s.link.lane = none ∧ blocked ∧
                  ∃ start, s.seq.lastSend = some start ∧ s.service.timers.tProbe ≤ (s.time - start).toNat) →
              exec .probeIdleExpiry s = .next s)) ∧
    ∀ (s : State) (k : Nat),
      (s.seq.rounds + 1 ≤ s.service.timers.roundLimit →
          s.askRewind k =
            ((s.withJournal
                  { s.journal with
                    entries :=
                      s.journal.entries.take k ++ (s.journal.entries.drop k).map fun e => { e with sent := false } }).withSeq
                { s.seq with
                  rounds := s.seq.rounds + 1
                  ackStart := if k = 0 then none else some s.time }).withService
              { s.service with
                stats :=
                  { s.service.stats with
                    rewinds :=
                      if s.service.stats.rewinds = 0xFFFFFFFF then 0xFFFFFFFF else s.service.stats.rewinds + 1 } }) ∧
        (s.service.timers.roundLimit < s.seq.rounds + 1 →
          s.askRewind k =
            (s.offerFault .rounds none none
                (some
                  (match s.journal.entries with
                    | [] => s.journal.nextSeq
                    | e :: _ => e.seq))
                (some s.link.epoch)).linkLoss
              .link)

/-- FRAME_END on a SOURCE in UP: the entry at the send cursor goes out if it is not open and fewer than 32 entries are
SENT, becoming SENT and ever sent; else a PROBE after tPROBE of idle time; else nothing (R23, R94, R118, R120). Where no
sender has a frame to choose, in link state DOWN or CLASH and in the roles ISOLATED and DRAINING, the lane becomes free,
carries idle fill, and nothing else changes (R94). -/
def Obligations.FrameEndOnASourceSendsTheCursor : Prop :=
  ∀ s : State, Ready s →
    (s.link.lane = none → exec .frameEnd s = .next s) ∧
      (Settled s →
        s.link.state = .down ∨ s.link.state = .clash ∨ s.role = .isolated ∨ s.role = .draining →
          exec .frameEnd s = .next (s.withLink { s.link with lane := none })) ∧
      (Settled s → s.inSession → s.link.lane ≠ none →
        ∃ t, exec .frameEnd s = .next t ∧ SameButSettled s t ∧
          (∀ front e rest, s.journal.entries = front ++ e :: rest → (∀ x ∈ front, x.sent = true) → e.sent = false →
            (∀ x ∈ rest, x.sent = false) → e.isOpen = false → front.length < 32 →
              t.link.lane =
                  some
                    (.data
                      { kind := e.kind, epoch := s.link.epoch, seq := e.seq, window := e.window, target := e.target
                        mask := e.mask, poison := e.poison, data := e.data }) ∧
                t.journal.entries = front ++ { e with sent := true, everSent := true } :: rest ∧
                t.seq =
                  { s.seq with
                    lastSend := some s.time
                    ackStart := if front = [] then some s.time else s.seq.ackStart }) ∧
          ((∀ e, s.journal.entries.find? (fun x => !x.sent) = some e →
              e.isOpen = true ∨ 32 ≤ s.journal.entries.countP (·.sent)) →
            t.journal.entries = s.journal.entries ∧
              ((∃ start, s.seq.lastSend = some start ∧ s.service.timers.tProbe ≤ (s.time - start).toNat) →
                t.link.lane = some (.probe s.link.epoch) ∧ t.seq = { s.seq with lastSend := some s.time }) ∧
              ((∀ start, s.seq.lastSend = some start → (s.time - start).toNat < s.service.timers.tProbe) →
                t.link.lane = none ∧ t.seq = s.seq)))

/-- FRAME_END on a SINK in UP takes the first of REPORT, NAK, ACK and the HELLO reply that is owed, with the effect at
its start, and nothing otherwise (R94, R137, R147, R148). -/
def Obligations.FrameEndOnASinkFollowsTheOrder : Prop :=
  ∀ (s : State) (f : Frame), Ready s → Settled s → s.sinkSession → s.link.lane = some f →
    let sends := fun (lane : Option Frame) (x : Receiver) =>
      ∃ t, exec .frameEnd s = .next t ∧ SameButSettled s t ∧ t.link = { s.link with lane := lane } ∧ t.rx = x
    (∀ r rest, s.rx.reportQueue = r :: rest → sends (some (.report r)) { s.rx with reportQueue := rest }) ∧
      (s.rx.reportQueue = [] →
        (∀ reason, s.rx.nakSlot = some reason →
            sends (some (.nak s.link.epoch s.rx.expected reason)) { s.rx with nakSlot := none }) ∧
          (s.rx.nakSlot = none →
            (s.rx.ackPending = true →
                sends (some (.ack s.link.epoch s.rx.lastApplied s.rx.applyFaults)) { s.rx with ackPending := false }) ∧
              (s.rx.ackPending = false →
                (s.rx.replyOwed = true →
                    sends (some (.hello (.sink s.link.epoch))) { s.rx with replyOwed := false }) ∧
                  (s.rx.replyOwed = false → sends none s.rx))))

/-- A SOURCE entering HAIL advances its epoch by one, from 255 to 1, and a SINK keeps it; HAIL is entered from DOWN
exactly when the role is SOURCE or SINK, the signal is PRESENT and no loopback test runs, and a HELLO is then owed
(R102, R103). In HAIL an owed HELLO goes out when the lane is free: from a SOURCE with its epoch and the journal's next
sequence, from a SINK with its epoch and only while its apply queue holds 16 or fewer entries; HELLO_REPEAT makes one
owed again when tHAIL has passed since the last (R96, R103). -/
def Obligations.HailIsEnteredAndSendsHello : Prop :=
  ((∀ s : State,
        (s.link.state = .down → s.role = .source ∨ s.role = .sink → s.link.signal = .present →
          s.link.test.running = false →
            s.enterHail =
              s.withLink
                { s.link with
                  state := .hail, helloDue := true, lastHello := none
                  epoch := if s.role = .source then nextEpoch s.link.epoch else s.link.epoch }) ∧
          (¬ (s.link.state = .down ∧ (s.role = .source ∨ s.role = .sink) ∧ s.link.signal = .present ∧
                s.link.test.running = false) →
            s.enterHail = s)) ∧
      nextEpoch 0 = 1 ∧ nextEpoch 255 = 1 ∧ ∀ k : Epoch, 1 ≤ k.toNat → k.toNat ≤ 254 → (nextEpoch k).toNat = k.toNat + 1) ∧
    ∀ s : State, Ready s → s.link.state = .hail →
      (Settled s → s.link.lane ≠ none →
          ∃ t, exec .frameEnd s = .next t ∧ SameButSettled s t ∧
            (s.link.helloDue = false → t.link = { s.link with lane := none }) ∧
            (s.role = .source → s.link.helloDue = true →
              t.link =
                { s.link with
                  lane := some (.hello (.source s.link.epoch s.journal.nextSeq))
                  helloDue := false, lastHello := some s.time }) ∧
            (s.role = .sink → s.link.helloDue = true →
              t.link =
                if s.rx.applyQueue.length ≤ 16 then
                  { s.link with
                    lane := some (.hello (.sink s.link.epoch)), helloDue := false, lastHello := some s.time }
                else { s.link with lane := none })) ∧
        (s.link.helloDue = false →
          (∀ start, s.link.lastHello = some start → 100 ≤ (s.time - start).toNat →
              exec .helloRepeat s = .next (s.withLink { s.link with helloDue := true }).settle) ∧
            ((∀ start, s.link.lastHello = some start → (s.time - start).toNat < 100) →
              exec .helloRepeat s = .next s))

/-- Link loss acts only in UP. On a SOURCE every capturing window is suspended with the cause, the sweep position
dropped, the journal converted and the two timers stopped; on a SINK the flags are cleared and the slot, the report
queue and an owed reply withdrawn; LINK_DOWN is raised and the epoch kept (R13, R38, R110, R149). SILENCE_EXPIRY takes
link loss when no good frame has arrived in UP for tQUIET, and otherwise does nothing (R109). -/
def Obligations.LinkLossEndsTheSession : Prop :=
  (∀ (s : State) (cause : SuspendCause),
      (s.link.state ≠ .up → s.linkLoss cause = s) ∧
        (s.link.state = .up →
          let down :=
            (s.withLink { s.link with state := .down, lastReceipt := none, lastHello := none, helloDue := false }).raise
              .linkDown
          (s.role = .source →
              (s.linkLoss cause).seq = { s.seq with ackStart := none, lastSend := none } ∧
                s.linkLoss cause =
                  ((down.suspendWhere Window.capturing cause).convert).withSeq
                    { s.seq with ackStart := none, lastSend := none }) ∧
            (s.role = .sink →
              s.linkLoss cause =
                down.withRx
                  { s.rx with
                    ackPending := false, nakOutstanding := false, nakSlot := none, reportQueue := []
                    replyOwed := false }) ∧
            (s.role = .isolated ∨ s.role = .draining → s.linkLoss cause = down))) ∧
    ∀ s : State, Ready s →
      (s.link.state = .up → (∃ start, s.link.lastReceipt = some start ∧ s.service.timers.tQuiet ≤ (s.time - start).toNat) →
          exec .silenceExpiry s = .next ((s.linkLoss .link).settle)) ∧
        (¬ (s.link.state = .up ∧
              ∃ start, s.link.lastReceipt = some start ∧ s.service.timers.tQuiet ≤ (s.time - start).toNat) →
          exec .silenceExpiry s = .next s)

/-- LANE_SIGNAL_CHANGE: a new verdict is recorded. ABSENT takes HAIL to DOWN without link loss and UP to DOWN by link
loss, and leaves DOWN and CLASH; PRESENT takes DOWN to HAIL in SOURCE and SINK roles, and leaves every other state
(R95). -/
def Obligations.SignalChangeActsByTheLinkState : Prop :=
  ∀ (signal : LaneSignal) (s : State), Ready s →
    let recorded := s.withLink { s.link with signal := signal }
    (signal = s.link.signal → exec (.laneSignalChange signal) s = .next s) ∧
      (signal ≠ s.link.signal → signal = .absent →
        (s.link.state = .down ∨ s.link.state = .clash → exec (.laneSignalChange signal) s = .next recorded.settle) ∧
          (s.link.state = .hail →
            exec (.laneSignalChange signal) s =
              .next
                ((recorded.withLink
                    { recorded.link with
                      state := .down, lastReceipt := none, lastHello := none, helloDue := false }).settle)) ∧
          (s.link.state = .up → exec (.laneSignalChange signal) s = .next ((recorded.linkLoss .link).settle))) ∧
      (signal ≠ s.link.signal → signal = .present →
        exec (.laneSignalChange signal) s = .next recorded.settle ∧ recorded.settle.link.signal = .present ∧
          (s.link.state ≠ .down → recorded.settle.link.state = s.link.state) ∧
          (s.link.state = .down → s.role = .source ∨ s.role = .sink → s.link.test.running = false →
            recorded.settle.link.state = .hail) ∧
          (s.link.state = .down → s.role = .isolated ∨ s.role = .draining → recorded.settle.link.state = .down))

/-- DAMAGED_FRAME: the statistic counts one, stopping at its maximum; on a SINK in UP with NAK-outstanding clear a NAK
DAMAGED is placed and the flag set; nothing else (R99, R135). A good frame that the link state and role do not hand on is discarded: nothing changes
in DOWN, HAIL and CLASH, and in UP only the last receipt; a TEST frame is discarded wherever it arrives. With the
signal ABSENT, a loopback test running or the cold reset pin asserted no frame is received (R95, R100, R115, R184). -/
def Obligations.DamagedAndUnheededFrames : Prop :=
  (∀ (bytes : List Byte) (s : State),
      let counted :=
        s.withService
          { s.service with
            stats :=
              { s.service.stats with
                damagedFrames :=
                  if s.service.stats.damagedFrames = 0xFFFFFFFF then 0xFFFFFFFF
                  else s.service.stats.damagedFrames + 1 } }
      (s.coldPin = true ∨ Ready s ∧ (s.link.signal = .absent ∨ s.link.test.running = true) →
          exec (.damagedFrame bytes) s = .next s) ∧
        (Ready s → s.link.signal = .present → s.link.test.running = false →
          (¬ s.sinkSession → exec (.damagedFrame bytes) s = .next counted) ∧
            (s.sinkSession → s.rx.nakOutstanding = false →
              exec (.damagedFrame bytes) s =
                .next (counted.withRx { s.rx with nakSlot := some .damaged, nakOutstanding := true }).settle) ∧
            (s.sinkSession → s.rx.nakOutstanding = true → Settled s →
              exec (.damagedFrame bytes) s = .next counted))) ∧
    ∀ (s : State) (c : Instr),
      let dataSide := (∃ f, c = .receiveDataFrame f) ∨ ∃ e, c = .receiveProbe e
      let ackSide := (∃ e q f, c = .receiveAck e q f) ∨ (∃ e q r, c = .receiveNak e q r) ∨ ∃ r, c = .receiveReport r
      let test := ∃ p d, c = .receiveTestFrame p d
      let hello := ∃ h, c = .receiveHello h
      ((dataSide ∨ ackSide ∨ test ∨ hello) →
          (s.coldPin = true ∨ Ready s ∧ (s.link.signal = .absent ∨ s.link.test.running = true)) →
          exec c s = .next s) ∧
        (Ready s → s.link.signal = .present → s.link.test.running = false →
          ((dataSide ∧ s.role ≠ .sink) ∨ (ackSide ∧ s.role ≠ .source) ∨ test →
              s.link.state = .up → exec c s = .next (s.withLink { s.link with lastReceipt := some s.time })) ∧
            (dataSide ∨ ackSide ∨ test → s.link.state ≠ .up → exec c s = .next s))

/-- A good HELLO in HAIL: a SOURCE goes UP on HELLO(SINK) of its epoch, ignores another, and enters CLASH on
HELLO(SOURCE) with event and fault CLASH; a SINK adopts HELLO(SOURCE) if its apply queue holds 16 or fewer entries,
none of that epoch, and ignores every other (R104, R105, R107, R108). A good HELLO in UP is link loss, re-entry to
HAIL, and the handling of the same HELLO there, but for HELLO(SINK) at a SINK, which only restarts the silence timer.
In DOWN and CLASH a HELLO is discarded (R100, R106). That a HELLO(SINK) received in UP is held to the advanced epoch by
R104, and so takes the SOURCE UP where it carries exactly that epoch, is the model's choice (log 32). -/
def Obligations.HelloOpensAndRestartsSessions : Prop :=
  (∀ (h : Hello) (s : State),
      let up :=
        (s.withLink
            { s.link with state := .up, lastReceipt := some s.time, lastHello := none, helloDue := false }).raise .linkUp
      (∀ e, s.role = .source → h = .sink e →
          (e = s.link.epoch →
              s.hailHello h =
                up.withSeq { s.seq with ackStart := none, lastSend := some s.time, rounds := 0, processed := 0 }) ∧
            (e ≠ s.link.epoch → s.hailHello h = s)) ∧
        (∀ e b, s.role = .source → h = .source e b →
          s.hailHello h =
            ((s.withLink
                    { s.link with state := .clash, lastReceipt := none, lastHello := none, helloDue := false }).raise
                .clash).offerFault .clash none none none (some e)) ∧
        (∀ e b, s.role = .sink → h = .source e b →
          (s.rx.applyQueue.length ≤ 16 → (∀ a ∈ s.rx.applyQueue, a.epoch ≠ e) →
              s.hailHello h =
                (up.withLink { up.link with epoch := e }).withRx
                  { s.rx with
                    expected := b, lastApplied := b - 1, applyFaults := 0, nakOutstanding := false, nakSlot := none
                    ackPending := false, replyOwed := true }) ∧
            (16 < s.rx.applyQueue.length ∨ (∃ a ∈ s.rx.applyQueue, a.epoch = e) → s.hailHello h = s)) ∧
        ∀ e, s.role = .sink → h = .sink e → s.hailHello h = s) ∧
    ∀ (h : Hello) (s : State), Ready s → s.link.signal = .present → s.link.test.running = false →
      (s.link.state = .hail → exec (.receiveHello h) s = .next (s.hailHello h).settle) ∧
        (s.link.state = .down ∨ s.link.state = .clash → exec (.receiveHello h) s = .next s) ∧
        (s.link.state = .up → s.role = .sink → (∃ e, h = .sink e) →
          exec (.receiveHello h) s = .next (s.withLink { s.link with lastReceipt := some s.time })) ∧
        (s.link.state = .up → s.role = .source ∨ s.role = .sink → (s.role = .source ∨ ∃ e b, h = .source e b) →
          ∃ u, u = (s.linkLoss .link).enterHail ∧ u.link.state = .hail ∧
            exec (.receiveHello h) s = .next (u.hailHello h).settle ∧
            u.service.events.getLsbD 1 = true ∧
            (s.role = .source → u.link.epoch = nextEpoch s.link.epoch ∧ u.journal.entries = []) ∧
            (s.role = .sink → u.link.epoch = s.link.epoch))

/-- RECEIVE_DATA_FRAME on a SINK in UP: a frame of another epoch changes nothing but the last receipt; at the expected
sequence it joins the apply queue while that holds fewer than 48 entries and clears the NAK, and is discarded at 48;
behind, it sets ack pending; ahead, it places a NAK GAP unless one is outstanding (R134, R137, R138). RECEIVE_PROBE on
a SINK in UP: one of the unit's epoch sets ack pending, one of another epoch changes nothing but the last receipt; no
sequence and no NAK state changes (R136). -/
def Obligations.SinkTakesDataFramesAndProbes : Prop :=
  (∀ (f : DataFrame) (s : State), s.sinkSession → Ready s → s.link.signal = .present → s.link.test.running = false →
      let seen := s.withLink { s.link with lastReceipt := some s.time }
      (f.epoch ≠ s.link.epoch → exec (.receiveDataFrame f) s = .next seen) ∧
        (f.epoch = s.link.epoch →
          (f.seq = s.rx.expected → s.rx.applyQueue.length < 48 →
              exec (.receiveDataFrame f) s =
                .next
                  (seen.withRx
                      { s.rx with
                        applyQueue :=
                          s.rx.applyQueue ++
                            [{ epoch := f.epoch, seq := f.seq, kind := f.kind, window := f.window, target := f.target
                               mask := if f.kind = .sweep then BitVec.allOnes 64 else f.mask
                               data := f.data, poison := f.poison }]
                        expected := s.rx.expected + 1, nakOutstanding := false, nakSlot := none }).settle) ∧
            (f.seq = s.rx.expected → 48 ≤ s.rx.applyQueue.length →
              exec (.receiveDataFrame f) s = .next seen.settle) ∧
            (f.seq ≠ s.rx.expected → 32768 ≤ (f.seq - s.rx.expected).toNat →
              exec (.receiveDataFrame f) s = .next (seen.withRx { s.rx with ackPending := true }).settle) ∧
            (f.seq ≠ s.rx.expected → (f.seq - s.rx.expected).toNat ≤ 32767 →
              (s.rx.nakOutstanding = false →
                  exec (.receiveDataFrame f) s =
                    .next (seen.withRx { s.rx with nakSlot := some .gap, nakOutstanding := true }).settle) ∧
                (s.rx.nakOutstanding = true → exec (.receiveDataFrame f) s = .next seen.settle)))) ∧
    ∀ (e : Epoch) (s : State), s.sinkSession → Ready s → s.link.signal = .present → s.link.test.running = false →
      let seen := s.withLink { s.link with lastReceipt := some s.time }
      (e = s.link.epoch → exec (.receiveProbe e) s = .next (seen.withRx { s.rx with ackPending := true }).settle) ∧
        (e ≠ s.link.epoch → exec (.receiveProbe e) s = .next seen)

/-- RECEIVE_NAK on a SOURCE in UP: one of another epoch is ignored; one of the present epoch asks for a rewind to an IN
FLIGHT entry, is ignored AT SEND, and is bogus elsewhere, with fault BOGUS_ACK and link loss; in any other link state
it is ignored; the reason makes no difference (R121, R123). -/
def Obligations.NakRewindsToAnInFlightEntry : Prop :=
  ∀ (e : Epoch) (q : Seq) (reason : NakReason) (s : State), Ready s → s.link.signal = .present → s.link.test.running = false →
    (s.link.state ≠ .up → exec (.receiveNak e q reason) s = .next s) ∧
      (s.inSession →
        let seen := s.withLink { s.link with lastReceipt := some s.time }
        (e ≠ s.link.epoch → exec (.receiveNak e q reason) s = .next seen) ∧
          (e = s.link.epoch →
            (∀ k, s.journal.place q = .inFlight k →
                exec (.receiveNak e q reason) s = .next (seen.askRewind k).settle) ∧
              (s.journal.place q = .atSend → Settled s → exec (.receiveNak e q reason) s = .next seen) ∧
              (s.journal.place q = .old ∨ s.journal.place q = .waiting ∨ s.journal.place q = .beyond →
                exec (.receiveNak e q reason) s =
                  .next
                    (((seen.offerFault .bogusAck none none (some q) (some s.link.epoch)).linkLoss .link).settle))))

/-- RECEIVE_ACK on a SOURCE in UP: one of another epoch is ignored; an OLD one removes nothing; an IN FLIGHT one
removes the head through its entry, makes the rounds count 0 and sets the ack start anew; both are then reconciled; any
other position is bogus (R123, R125, R126, R128). -/
def Obligations.AckRemovesThroughItsEntry : Prop :=
  ∀ (e : Epoch) (q f : Seq) (s : State), s.inSession → Ready s → s.link.signal = .present → s.link.test.running = false →
    let seen := s.withLink { s.link with lastReceipt := some s.time }
    let reconciled := fun v : State =>
      if 1 ≤ (f - v.seq.processed).toNat ∧ (f - v.seq.processed).toNat ≤ 32767 then
        ((((v.suspendWhere Window.enabled .missingReport).markAll.withSeq { v.seq with processed := f }).offerFault
              .missingReport none none (some q) (some s.link.epoch)).raise
          .partnerFault)
      else v
    (e ≠ s.link.epoch → exec (.receiveAck e q f) s = .next seen) ∧
      (e = s.link.epoch →
        (s.journal.place q = .old → exec (.receiveAck e q f) s = .next (reconciled seen).settle) ∧
          (∀ k, s.journal.place q = .inFlight k →
            ∃ v, v = State.acknowledge (k + 1) seen ∧ v.journal.entries = s.journal.entries.drop (k + 1) ∧
              exec (.receiveAck e q f) s =
                .next
                  (reconciled
                      (v.withSeq
                        { v.seq with
                          rounds := 0
                          ackStart :=
                            if (s.journal.entries.drop (k + 1)).any (·.sent) then some s.time else none })).settle) ∧
          (s.journal.place q = .atSend ∨ s.journal.place q = .waiting ∨ s.journal.place q = .beyond →
            exec (.receiveAck e q f) s =
              .next
                (((seen.offerFault .bogusAck none none (some q) (some s.link.epoch)).linkLoss .link).settle)))

/-- An entry that leaves by acknowledgment has its held tags answered in list order, OKAY or, reported, UNMIRRORED,
their records removed; a MARK entry writes the confirmed-mark record and raises MARK_CONFIRMED; a SWEEP entry causes
the R12 test; the statistic counts one; entries leave oldest first, one at a time (R35, R53, R127). -/
def Obligations.AcknowledgedEntriesReleaseTheirTags : Prop :=
  ∀ s : State,
    (∀ n, (State.acknowledge n s).journal.entries = s.journal.entries.drop n) ∧
      State.acknowledge 0 s = s ∧
      ∀ n e rest, s.journal.entries = e :: rest →
        ∃ t, State.acknowledge (n + 1) s = State.acknowledge n t ∧
          t.journal = { s.journal with entries := rest } ∧
          t.host =
            { s.host with
              held := s.host.held.filter fun r => r.tag ∉ e.heldTags
              tags := s.host.tags.filter fun x => x ∉ e.heldTags
              responses :=
                s.host.responses ++
                  e.heldTags.map fun x =>
                    ({ tag := x, status := if e.reported then .unmirrored else .okay, data := none } : HostResponse) } ∧
          t.service.stats =
            { s.service.stats with
              entriesAcked :=
                if s.service.stats.entriesAcked = 0xFFFFFFFF then 0xFFFFFFFF else s.service.stats.entriesAcked + 1 } ∧
          (e.kind = .update →
            t.seq = s.seq ∧ t.windows = s.windows ∧ t.service.events = s.service.events) ∧
          (e.kind = .mark →
            t.windows = s.windows ∧ t.service.events = s.service.events ||| EventCause.markConfirmed.flag ∧
              ∃ k : Fin 8, (e.mask ≠ 0 → ∃ j : Fin 8, e.mask.getLsbD (8 * k.val + j.val) = true) ∧
                (∀ i : Nat, i < 8 * k.val → e.mask.getLsbD i = false) ∧
                t.seq =
                  { s.seq with
                    confirmedMark :=
                      { valid := true, window := e.window, target := e.target, wordIndex := k
                        word := Vector.ofFn fun j => e.data[8 * k.val + j.val]'(by omega)
                        seq := e.seq, epoch := s.link.epoch, reported := e.reported } }) ∧
          (e.kind = .sweep →
            t.seq = s.seq ∧
              t.windows = ((s.withEntries rest).sweepTest e.window).windows ∧
              t.service.events = ((s.withEntries rest).sweepTest e.window).service.events) ∧
          t.service = { s.service with stats := t.service.stats, events := t.service.events } ∧
          t.dirty = s.dirty ∧ t.link = s.link ∧ t.rx = s.rx ∧ t.port = s.port ∧ t.sweep = s.sweep ∧
          t.role = s.role ∧ t.time = s.time ∧ t.pending = s.pending ∧ t.freeCount = s.freeCount ∧
          t.coldPin = s.coldPin

/-- RECEIVE_REPORT on a SOURCE in UP: one of another epoch is ignored; one of the present epoch marks the entry of its
sequence reported, suspends the affected window with cause PARTNER and marks the affected granule, counts the report,
records PARTNER_REPORT and raises PARTNER_FAULT (R15, R36, R129). For an entry of the journal never yet sent, where the
rules differ, its local line and its reported field are the model's choice (assumption log 31). -/
def Obligations.ReportSuspendsTheAffectedWindow : Prop :=
  ∀ (r : Report) (s : State), s.inSession → Ready s → s.link.signal = .present → s.link.test.running = false →
    let seen := s.withLink { s.link with lastReceipt := some s.time }
    let marked :=
      seen.withJournal
        { s.journal with
          entries := s.journal.entries.map fun e => if e.seq = r.seq then { e with reported := true } else e }
    let counted := fun (v : State) (w : Option WinIdx) =>
      ((v.withSeq { s.seq with processed := s.seq.processed + 1 }).offerFault .partnerReport w (some r.target)
          (some r.seq) (some s.link.epoch)).raise
        .partnerFault
    (r.epoch ≠ s.link.epoch → exec (.receiveReport r) s = .next seen) ∧
      (r.epoch = s.link.epoch →
        (∀ e, s.journal.entries.find? (fun x => x.seq = r.seq) = some e →
            (s.owner e.localLine.granule = none →
                exec (.receiveReport r) s = .next (counted marked none).settle) ∧
              ∀ w, s.owner e.localLine.granule = some w →
                exec (.receiveReport r) s =
                  .next
                    (counted ((marked.suspendWindow w .partner).markDirty w e.localLine.granule) (some w)).settle) ∧
          ((∀ e ∈ s.journal.entries, e.seq ≠ r.seq) →
            (s.remoteOwner r.target.granule = none →
                exec (.receiveReport r) s = .next (counted seen none).settle) ∧
              ∀ w, s.remoteOwner r.target.granule = some w →
                exec (.receiveReport r) s =
                  .next
                    (counted
                        ((seen.suspendWindow w .partner).markDirty w
                          (s.windows[w].untranslate r.target).granule)
                        (some w)).settle))


/-! ### The apply engine -/

/-- APPLY_HEAD_EXAMINE: with 8 REPORTs queued the head is WITHHELD; an empty mask is finished without a write; a target
in no enabled window is finished with a RANGE fault; any other head stays PRESENTED, and a head on the port is not
examined; after a finish the next head is examined in the same step (R140, R142). The completion of an apply write
finishes the head, with fault APPLY and the owning window at the grant on ERROR, and examines the next one in the same
step; one that a warm reset overtook finishes nothing (R75, R141, R142). That an entry is finished with all of its effects
before the next one is, is the model's reading (assumption log 30). -/
def Obligations.ApplyHeadIsExaminedAndCompleted : Prop :=
  (∀ s : State,
      (s.rx.applyQueue = [] ∨ s.headOnPort = true ∨ 8 ≤ s.rx.reportQueue.length →
          s.examine = s ∧ (s.coldPin = false → exec .applyHeadExamine s = .next s)) ∧
        ∀ e rest, s.rx.applyQueue = e :: rest → s.headOnPort = false → s.rx.reportQueue.length < 8 →
          (e.mask = 0 → s.examine = (s.finishEntry e .unwritten).examine) ∧
            (e.mask ≠ 0 → (∃ w, s.owner e.target.granule = some w) →
              s.examine = s ∧ (s.coldPin = false → exec .applyHeadExamine s = .next s)) ∧
            (e.mask ≠ 0 → s.owner e.target.granule = none →
              s.examine = (s.finishEntry e (.fault .range none)).examine) ∧
            (e.mask = 0 ∨ s.owner e.target.granule = none → s.coldPin = false →
              exec .applyHeadExamine s = .next s.examine.drainCheck.settle)) ∧
    ∀ (s : State) (c : Completion) (line : Line) (access : Access) (e : ApplyEntry) (w : Option WinIdx)
      (discarded : Bool), Ready s →
      s.port.op = some { line := line, access := access, owner := .apply e w discarded } →
        let idle := s.withPort { s.port with op := none }
        (discarded = true → exec (.memoryCompletion c) s = .next idle.settle) ∧
          (discarded = false →
            (c = .error →
                exec (.memoryCompletion c) s =
                  .next (idle.finishEntry e (.fault .apply w)).examine.drainCheck.settle) ∧
              (c ≠ .error →
                exec (.memoryCompletion c) s = .next (idle.finishEntry e .written).examine.drainCheck.settle))

/-- Finishing an entry: it leaves the queue; a write counts in the statistic, and of a MARK entry writes the
applied-mark record and raises MARK_APPLIED; a fault is recorded and raises APPLY_FAULT; with session effect a fault
also counts and queues a REPORT, and last-applied and ack pending follow (R139, R142, R143, R145). -/
def Obligations.FinishingAnEntryFollowsTheRules : Prop :=
  ∀ (s : State) (e : ApplyEntry),
    let session := decide (s.role = .sink ∧ s.link.state = .up ∧ e.epoch = s.link.epoch)
    let left := { s.rx with applyQueue := s.rx.applyQueue.tail }
    let moved := fun x : Receiver => if session then { x with lastApplied := e.seq, ackPending := true } else x
    s.finishEntry e .unwritten = s.withRx (moved left) ∧
      (∃ k : Fin 8, (e.mask ≠ 0 → ∃ j : Fin 8, e.mask.getLsbD (8 * k.val + j.val) = true) ∧
        (∀ i : Nat, i < 8 * k.val → e.mask.getLsbD i = false) ∧
        s.finishEntry e .written =
          (s.withRx
              (moved
                { left with
                  appliedMark :=
                    if e.kind = .mark then
                      { valid := true, window := e.window, target := e.target, wordIndex := k
                        word := Vector.ofFn fun j => e.data[8 * k.val + j.val]'(by omega)
                        seq := e.seq, epoch := e.epoch, reported := false }
                    else s.rx.appliedMark })).withService
            { s.service with
              events := if e.kind = .mark then s.service.events ||| EventCause.markApplied.flag else s.service.events
              stats :=
                { s.service.stats with
                  entriesApplied :=
                    if s.service.stats.entriesApplied = 0xFFFFFFFF then 0xFFFFFFFF
                    else s.service.stats.entriesApplied + 1 } }) ∧
      ∀ (kind : ApplyFault) (w : Option WinIdx),
        s.finishEntry e (.fault kind w) =
          (s.withRx
              (moved
                (if session then
                  { left with
                    applyFaults := s.rx.applyFaults + 1
                    reportQueue :=
                      s.rx.reportQueue ++ [{ epoch := s.link.epoch, seq := e.seq, kind := kind, target := e.target }] }
                else left))).withService
            ((s.offerFault
                  (match kind with
                  | .range => .range
                  | .apply => .apply)
                  w (some e.target) (some e.seq) (some e.epoch)).raise
                .applyFault).service


/-! ### Invariants -/

/-- The state after reset meets every invariant. -/
def Obligations.ResetMeetsEveryInvariant : Prop :=
  SessionInv State.reset ∧ LinkRecordInv State.reset ∧ TestInv State.reset ∧ SinkInv State.reset ∧
    JournalInv State.reset ∧ CapacityInv State.reset ∧ TimersInv State.reset ∧ WindowsInv State.reset ∧
    DirtyInv State.reset ∧ SweepInv State.reset ∧ TagInv State.reset ∧ ColdPinInv State.reset ∧
    Settled State.reset

/-- Every step keeps: windows capture and the journal holds entries only on a SOURCE whose link is UP, and each role
has only its link states (R12, R22, R101). -/
def Obligations.StepsKeepTheSession : Prop :=
  ∀ s t : State, SessionInv s → step s = .next t → SessionInv t

/-- Every step keeps the journal in order: at most 512 entries, consecutive sequences, the SENT ones the oldest and at
most 32, only the tail open (R19, R20, R21, R23, R28). -/
def Obligations.StepsKeepTheJournalInOrder : Prop :=
  ∀ s t : State, JournalInv s → step s = .next t → JournalInv t

/-- Every step keeps the capacities and the timer settings (00 Fixed capacities; R71, R138, R144, R173, R177). -/
def Obligations.StepsKeepTheCapacities : Prop :=
  (∀ s t : State, CapacityInv s → step s = .next t → CapacityInv t) ∧
    ∀ s t : State, TimersInv s → step s = .next t → TimersInv t

/-- Every step keeps the window table legal and the dirty set within the enabled windows, empty on a SINK or DRAINING
unit (R4, R5, R76). -/
def Obligations.StepsKeepWindowsAndDirtySet : Prop :=
  (∀ s t : State, WindowsInv s → step s = .next t → WindowsInv t) ∧
    ∀ s t : State, DirtyInv s → step s = .next t → DirtyInv t

/-- Every step keeps the sweep position on a dirty granule of a SWEEPING window, and MIRRORING windows clean (R12, R83,
R89). -/
def Obligations.StepsKeepTheSweepSound : Prop :=
  ∀ s t : State, SessionInv s → WindowsInv s → SweepInv s → step s = .next t → SweepInv t

/-- Every step keeps the recorded times and flags to the states that measure or use them, and the test record
consistent; and, while the cold reset pin is asserted, every cold reset value (R103, R109, R113, R116, R120, R137, R149,
R182, R184). That the test's loop is empty after a RESTART aborts the test is the model's choice (assumption log 28), and
so are, of the cold reset values, the emptied loop (assumption log 28), the requested count 0 (assumption log 9) and that
they hold from the assertion on (assumption log 14). -/
def Obligations.StepsKeepRecordsToTheirStates : Prop :=
  (∀ s t : State, SessionInv s → JournalInv s → LinkRecordInv s → step s = .next t → LinkRecordInv t) ∧
    (∀ s t : State, SinkInv s → step s = .next t → SinkInv t) ∧
    (∀ s t : State, TestInv s → step s = .next t → TestInv t) ∧
    ∀ s t : State, ColdPinInv s → step s = .next t → ColdPinInv t

/-- Every step keeps each tag in one place, and the held-write table in step with the held-tag lists (R45, R52). -/
def Obligations.StepsKeepEachTagInOnePlace : Prop :=
  ∀ s t : State, JournalInv s → TagInv s → step s = .next t → TagInv t

/-- Every step leaves undone nothing of what settling does: the entry to HAIL, the answers at the host head, the lane's next
frame but for a PROBE, the stall start, the sweep position and the passed-over count, which the model takes to happen at
the end of a step (assumption log 16 and 17). The grant of the memory port (R69) and the examination of the apply head
(assumption log 26 and 29), which come before the next event, and the PROBE at tPROBE are steps of their own and no part
of it. -/
def Obligations.StepsLeaveNothingUndone : Prop :=
  ∀ s t : State, TestInv s → Settled s → step s = .next t → Settled t


/-! ### The cold reset pin -/

/-- While the cold reset pin is asserted the outbound lane is undriven and the attention line deasserted, and whatever the
state no command changes anything but the level of the host port reset line or of the pin itself: no request, message,
frame or completion is taken, no grant made and no examination, and the lane signal is not followed; and no time passes
(R94, R95, R182, R183, R184; assumption log 14). -/
def Obligations.HeldPinStopsTheUnit : Prop :=
  (∀ s : State, s.coldPin = true →
      s.laneOutput = .undriven ∧ s.attention = false ∧ (s.pending = [] → step s = .next s) ∧
        (∀ c : Instr, c ≠ .hostPortReset → c ≠ .hostPortResetRelease → (∀ edge, c ≠ .coldReset edge) →
          exec c s = .next s) ∧
        exec .hostPortReset s = .next (s.withHost { s.host with resetLine := true }) ∧
        exec .hostPortResetRelease s = .next (s.withHost { s.host with resetLine := false })) ∧
    ∀ s : State, s.coldPin = false →
      (s.link.lane = none → s.laneOutput = .idleFill) ∧ ∀ f, s.link.lane = some f → s.laneOutput = .frame f

end
end

