-- ==== Sys2Proof/Laws/Lists.lean ====
section
/-! SUPPORT. The lists that hold sets, the big-endian fields, and the evaluation helper: what each does, once. -/

namespace Sys2Proof

/-! ### Big-endian fields -/

theorem evalNat_eq {α : Type} (n : Nat) (f : Nat → α) : evalNat n f = f n := by
  cases n <;> rfl

@[simp] theorem beBytes_length (n v : Nat) : (beBytes n v).length = n := by
  induction n generalizing v with
  | zero => rfl
  | succ n ih => simp [beBytes, ih]

theorem beNat_append_one (l : List Byte) (b : Byte) : beNat (l ++ [b]) = beNat l * 256 + b.toNat := by
  simp [beNat]

/-- The bytes of a number that fits give the number back. -/
theorem beNat_beBytes (n v : Nat) (h : v < 256 ^ n) : beNat (beBytes n v) = v := by
  induction n generalizing v with
  | zero => simp at h; subst h; rfl
  | succ n ih =>
    have h' : v / 256 < 256 ^ n := by
      rw [Nat.div_lt_iff_lt_mul (by decide)]
      rwa [Nat.pow_succ] at h
    rw [beBytes, beNat_append_one, ih _ h']
    simp only [BitVec.toNat_ofNat]
    omega

namespace Machine

/-! ### Sets held as rising lists -/

theorem mem_insertBy_id (x y : Nat) (l : List Nat) : y ∈ insertBy id x l ↔ y = x ∨ y ∈ l := by
  induction l with
  | nil => simp [insertBy]
  | cons z l ih => grind [insertBy]

theorem insertBy_id_sorted (x : Nat) (l : List Nat) (h : l.Pairwise (· < ·)) : (insertBy id x l).Pairwise (· < ·) := by
  induction l with
  | nil => simp [insertBy]
  | cons z l ih =>
    have hm := mem_insertBy_id x
    grind [insertBy, List.pairwise_cons]

theorem mem_insertRange (base n g : Nat) (l : List Nat) :
    g ∈ insertRange base n l ↔ g ∈ l ∨ (base ≤ g ∧ g < base + n) := by
  simp only [insertRange, List.mem_append, List.mem_filter, decide_eq_true_eq, List.mem_range'_1]
  grind

theorem insertRange_sorted (base n : Nat) (l : List Nat) (h : l.Pairwise (· < ·)) :
    (insertRange base n l).Pairwise (· < ·) := by
  unfold insertRange
  rw [List.pairwise_append, List.pairwise_append]
  refine ⟨⟨h.filter _, List.pairwise_lt_range', ?_⟩, h.filter _, ?_⟩
  · intro a ha b hb
    simp only [List.mem_filter, decide_eq_true_eq] at ha
    simp only [List.mem_range'_1] at hb
    omega
  · intro a ha b hb
    simp only [List.mem_append, List.mem_filter, decide_eq_true_eq, List.mem_range'_1] at ha hb
    omega

theorem mem_removeRange (base n g : Nat) (l : List Nat) :
    g ∈ removeRange base n l ↔ g ∈ l ∧ ¬ (base ≤ g ∧ g < base + n) := by
  simp only [removeRange, List.mem_filter, Bool.or_eq_true, decide_eq_true_eq]
  grind

theorem removeRange_sorted (base n : Nat) (l : List Nat) (h : l.Pairwise (· < ·)) :
    (removeRange base n l).Pairwise (· < ·) := h.filter _

theorem countRange_eq_zero (base n : Nat) (l : List Nat) :
    countRange base n l = 0 ↔ ∀ g ∈ l, ¬ (base ≤ g ∧ g < base + n) := by
  simp [countRange, List.filter_eq_nil_iff]

/-! ### Open choices -/

theorem permute_perm {α : Type} (code : Nat) (l : List α) : (permute code l).Perm l := by
  induction l generalizing code with
  | nil => exact List.Perm.refl _
  | cons x l ih =>
    cases l with
    | nil => exact List.Perm.refl _
    | cons y l =>
      simp only [permute]
      refine (List.perm_insertIdx _ _ ?_).trans ((ih _).cons x)
      have := (ih (code / (l.length + 2))).length_eq
      simp only [List.length_cons] at this
      rw [this]
      have := Nat.mod_lt code (y := l.length + 2) (by omega)
      omega

theorem pick_mem {α : Type} (code : Nat) (l : List α) (x : α) (h : pick code l = some x) : x ∈ l := by
  match l with
  | [] => simp [pick] at h
  | [y] => simp only [pick, Option.some.injEq] at h; simp [h]
  | y :: z :: l => simp only [pick] at h; exact List.mem_of_getElem? h

theorem pick_isSome {α : Type} (code : Nat) (l : List α) (h : l ≠ []) : (pick code l).isSome = true := by
  match l with
  | [] => exact absurd rfl h
  | [y] => rfl
  | y :: z :: l =>
    simp only [pick]
    have := Nat.mod_lt code (y := l.length + 2) (by omega)
    rw [List.getElem?_eq_getElem (by simp only [List.length_cons]; omega)]
    rfl

end Machine

end Sys2Proof
end

