-- ==== Sys2Proof/Laws/State.lean ====
section
/-! SUPPORT. What each field of the state reads after each update: one lemma for each pair, true by definition, so that no
proof unfolds a record update; and what two updates of one field come to. -/

namespace Sys2Proof.Machine

/-! ### After `withHost` -/

@[simp] theorem State.withHost_host (s : State) (x : HostPort) : (s.withHost x).host = x := rfl
@[simp] theorem State.withHost_windows (s : State) (x : HostPort) : (s.withHost x).windows = s.windows := rfl
@[simp] theorem State.withHost_port (s : State) (x : HostPort) : (s.withHost x).port = s.port := rfl
@[simp] theorem State.withHost_journal (s : State) (x : HostPort) : (s.withHost x).journal = s.journal := rfl
@[simp] theorem State.withHost_dirty (s : State) (x : HostPort) : (s.withHost x).dirty = s.dirty := rfl
@[simp] theorem State.withHost_sweep (s : State) (x : HostPort) : (s.withHost x).sweep = s.sweep := rfl
@[simp] theorem State.withHost_link (s : State) (x : HostPort) : (s.withHost x).link = s.link := rfl
@[simp] theorem State.withHost_seq (s : State) (x : HostPort) : (s.withHost x).seq = s.seq := rfl
@[simp] theorem State.withHost_rx (s : State) (x : HostPort) : (s.withHost x).rx = s.rx := rfl
@[simp] theorem State.withHost_role (s : State) (x : HostPort) : (s.withHost x).role = s.role := rfl
@[simp] theorem State.withHost_service (s : State) (x : HostPort) : (s.withHost x).service = s.service := rfl
@[simp] theorem State.withHost_time (s : State) (x : HostPort) : (s.withHost x).time = s.time := rfl
@[simp] theorem State.withHost_pending (s : State) (x : HostPort) : (s.withHost x).pending = s.pending := rfl
@[simp] theorem State.withHost_freeCount (s : State) (x : HostPort) : (s.withHost x).freeCount = s.freeCount := rfl
@[simp] theorem State.withHost_coldPin (s : State) (x : HostPort) : (s.withHost x).coldPin = s.coldPin := rfl
@[simp] theorem State.withHost_withHost (s : State) (x y : HostPort) : (s.withHost x).withHost y = s.withHost y := rfl
@[simp] theorem State.withHost_self (s : State) : s.withHost s.host = s := rfl

/-! ### After `withWindows` -/

@[simp] theorem State.withWindows_host (s : State) (x : Vector Window 16) : (s.withWindows x).host = s.host := rfl
@[simp] theorem State.withWindows_windows (s : State) (x : Vector Window 16) : (s.withWindows x).windows = x := rfl
@[simp] theorem State.withWindows_port (s : State) (x : Vector Window 16) : (s.withWindows x).port = s.port := rfl
@[simp] theorem State.withWindows_journal (s : State) (x : Vector Window 16) : (s.withWindows x).journal = s.journal := rfl
@[simp] theorem State.withWindows_dirty (s : State) (x : Vector Window 16) : (s.withWindows x).dirty = s.dirty := rfl
@[simp] theorem State.withWindows_sweep (s : State) (x : Vector Window 16) : (s.withWindows x).sweep = s.sweep := rfl
@[simp] theorem State.withWindows_link (s : State) (x : Vector Window 16) : (s.withWindows x).link = s.link := rfl
@[simp] theorem State.withWindows_seq (s : State) (x : Vector Window 16) : (s.withWindows x).seq = s.seq := rfl
@[simp] theorem State.withWindows_rx (s : State) (x : Vector Window 16) : (s.withWindows x).rx = s.rx := rfl
@[simp] theorem State.withWindows_role (s : State) (x : Vector Window 16) : (s.withWindows x).role = s.role := rfl
@[simp] theorem State.withWindows_service (s : State) (x : Vector Window 16) : (s.withWindows x).service = s.service := rfl
@[simp] theorem State.withWindows_time (s : State) (x : Vector Window 16) : (s.withWindows x).time = s.time := rfl
@[simp] theorem State.withWindows_pending (s : State) (x : Vector Window 16) : (s.withWindows x).pending = s.pending := rfl
@[simp] theorem State.withWindows_freeCount (s : State) (x : Vector Window 16) : (s.withWindows x).freeCount = s.freeCount := rfl
@[simp] theorem State.withWindows_coldPin (s : State) (x : Vector Window 16) : (s.withWindows x).coldPin = s.coldPin := rfl
@[simp] theorem State.withWindows_withWindows (s : State) (x y : Vector Window 16) : (s.withWindows x).withWindows y = s.withWindows y := rfl
@[simp] theorem State.withWindows_self (s : State) : s.withWindows s.windows = s := rfl

/-! ### After `withPort` -/

@[simp] theorem State.withPort_host (s : State) (x : MemoryPort) : (s.withPort x).host = s.host := rfl
@[simp] theorem State.withPort_windows (s : State) (x : MemoryPort) : (s.withPort x).windows = s.windows := rfl
@[simp] theorem State.withPort_port (s : State) (x : MemoryPort) : (s.withPort x).port = x := rfl
@[simp] theorem State.withPort_journal (s : State) (x : MemoryPort) : (s.withPort x).journal = s.journal := rfl
@[simp] theorem State.withPort_dirty (s : State) (x : MemoryPort) : (s.withPort x).dirty = s.dirty := rfl
@[simp] theorem State.withPort_sweep (s : State) (x : MemoryPort) : (s.withPort x).sweep = s.sweep := rfl
@[simp] theorem State.withPort_link (s : State) (x : MemoryPort) : (s.withPort x).link = s.link := rfl
@[simp] theorem State.withPort_seq (s : State) (x : MemoryPort) : (s.withPort x).seq = s.seq := rfl
@[simp] theorem State.withPort_rx (s : State) (x : MemoryPort) : (s.withPort x).rx = s.rx := rfl
@[simp] theorem State.withPort_role (s : State) (x : MemoryPort) : (s.withPort x).role = s.role := rfl
@[simp] theorem State.withPort_service (s : State) (x : MemoryPort) : (s.withPort x).service = s.service := rfl
@[simp] theorem State.withPort_time (s : State) (x : MemoryPort) : (s.withPort x).time = s.time := rfl
@[simp] theorem State.withPort_pending (s : State) (x : MemoryPort) : (s.withPort x).pending = s.pending := rfl
@[simp] theorem State.withPort_freeCount (s : State) (x : MemoryPort) : (s.withPort x).freeCount = s.freeCount := rfl
@[simp] theorem State.withPort_coldPin (s : State) (x : MemoryPort) : (s.withPort x).coldPin = s.coldPin := rfl
@[simp] theorem State.withPort_withPort (s : State) (x y : MemoryPort) : (s.withPort x).withPort y = s.withPort y := rfl
@[simp] theorem State.withPort_self (s : State) : s.withPort s.port = s := rfl

/-! ### After `withJournal` -/

@[simp] theorem State.withJournal_host (s : State) (x : Journal) : (s.withJournal x).host = s.host := rfl
@[simp] theorem State.withJournal_windows (s : State) (x : Journal) : (s.withJournal x).windows = s.windows := rfl
@[simp] theorem State.withJournal_port (s : State) (x : Journal) : (s.withJournal x).port = s.port := rfl
@[simp] theorem State.withJournal_journal (s : State) (x : Journal) : (s.withJournal x).journal = x := rfl
@[simp] theorem State.withJournal_dirty (s : State) (x : Journal) : (s.withJournal x).dirty = s.dirty := rfl
@[simp] theorem State.withJournal_sweep (s : State) (x : Journal) : (s.withJournal x).sweep = s.sweep := rfl
@[simp] theorem State.withJournal_link (s : State) (x : Journal) : (s.withJournal x).link = s.link := rfl
@[simp] theorem State.withJournal_seq (s : State) (x : Journal) : (s.withJournal x).seq = s.seq := rfl
@[simp] theorem State.withJournal_rx (s : State) (x : Journal) : (s.withJournal x).rx = s.rx := rfl
@[simp] theorem State.withJournal_role (s : State) (x : Journal) : (s.withJournal x).role = s.role := rfl
@[simp] theorem State.withJournal_service (s : State) (x : Journal) : (s.withJournal x).service = s.service := rfl
@[simp] theorem State.withJournal_time (s : State) (x : Journal) : (s.withJournal x).time = s.time := rfl
@[simp] theorem State.withJournal_pending (s : State) (x : Journal) : (s.withJournal x).pending = s.pending := rfl
@[simp] theorem State.withJournal_freeCount (s : State) (x : Journal) : (s.withJournal x).freeCount = s.freeCount := rfl
@[simp] theorem State.withJournal_coldPin (s : State) (x : Journal) : (s.withJournal x).coldPin = s.coldPin := rfl
@[simp] theorem State.withJournal_withJournal (s : State) (x y : Journal) : (s.withJournal x).withJournal y = s.withJournal y := rfl
@[simp] theorem State.withJournal_self (s : State) : s.withJournal s.journal = s := rfl

/-! ### After `withDirty` -/

@[simp] theorem State.withDirty_host (s : State) (x : List Nat) : (s.withDirty x).host = s.host := rfl
@[simp] theorem State.withDirty_windows (s : State) (x : List Nat) : (s.withDirty x).windows = s.windows := rfl
@[simp] theorem State.withDirty_port (s : State) (x : List Nat) : (s.withDirty x).port = s.port := rfl
@[simp] theorem State.withDirty_journal (s : State) (x : List Nat) : (s.withDirty x).journal = s.journal := rfl
@[simp] theorem State.withDirty_dirty (s : State) (x : List Nat) : (s.withDirty x).dirty = x := rfl
@[simp] theorem State.withDirty_sweep (s : State) (x : List Nat) : (s.withDirty x).sweep = s.sweep := rfl
@[simp] theorem State.withDirty_link (s : State) (x : List Nat) : (s.withDirty x).link = s.link := rfl
@[simp] theorem State.withDirty_seq (s : State) (x : List Nat) : (s.withDirty x).seq = s.seq := rfl
@[simp] theorem State.withDirty_rx (s : State) (x : List Nat) : (s.withDirty x).rx = s.rx := rfl
@[simp] theorem State.withDirty_role (s : State) (x : List Nat) : (s.withDirty x).role = s.role := rfl
@[simp] theorem State.withDirty_service (s : State) (x : List Nat) : (s.withDirty x).service = s.service := rfl
@[simp] theorem State.withDirty_time (s : State) (x : List Nat) : (s.withDirty x).time = s.time := rfl
@[simp] theorem State.withDirty_pending (s : State) (x : List Nat) : (s.withDirty x).pending = s.pending := rfl
@[simp] theorem State.withDirty_freeCount (s : State) (x : List Nat) : (s.withDirty x).freeCount = s.freeCount := rfl
@[simp] theorem State.withDirty_coldPin (s : State) (x : List Nat) : (s.withDirty x).coldPin = s.coldPin := rfl
@[simp] theorem State.withDirty_withDirty (s : State) (x y : List Nat) : (s.withDirty x).withDirty y = s.withDirty y := rfl
@[simp] theorem State.withDirty_self (s : State) : s.withDirty s.dirty = s := rfl

/-! ### After `withSweep` -/

@[simp] theorem State.withSweep_host (s : State) (x : SweepEngine) : (s.withSweep x).host = s.host := rfl
@[simp] theorem State.withSweep_windows (s : State) (x : SweepEngine) : (s.withSweep x).windows = s.windows := rfl
@[simp] theorem State.withSweep_port (s : State) (x : SweepEngine) : (s.withSweep x).port = s.port := rfl
@[simp] theorem State.withSweep_journal (s : State) (x : SweepEngine) : (s.withSweep x).journal = s.journal := rfl
@[simp] theorem State.withSweep_dirty (s : State) (x : SweepEngine) : (s.withSweep x).dirty = s.dirty := rfl
@[simp] theorem State.withSweep_sweep (s : State) (x : SweepEngine) : (s.withSweep x).sweep = x := rfl
@[simp] theorem State.withSweep_link (s : State) (x : SweepEngine) : (s.withSweep x).link = s.link := rfl
@[simp] theorem State.withSweep_seq (s : State) (x : SweepEngine) : (s.withSweep x).seq = s.seq := rfl
@[simp] theorem State.withSweep_rx (s : State) (x : SweepEngine) : (s.withSweep x).rx = s.rx := rfl
@[simp] theorem State.withSweep_role (s : State) (x : SweepEngine) : (s.withSweep x).role = s.role := rfl
@[simp] theorem State.withSweep_service (s : State) (x : SweepEngine) : (s.withSweep x).service = s.service := rfl
@[simp] theorem State.withSweep_time (s : State) (x : SweepEngine) : (s.withSweep x).time = s.time := rfl
@[simp] theorem State.withSweep_pending (s : State) (x : SweepEngine) : (s.withSweep x).pending = s.pending := rfl
@[simp] theorem State.withSweep_freeCount (s : State) (x : SweepEngine) : (s.withSweep x).freeCount = s.freeCount := rfl
@[simp] theorem State.withSweep_coldPin (s : State) (x : SweepEngine) : (s.withSweep x).coldPin = s.coldPin := rfl
@[simp] theorem State.withSweep_withSweep (s : State) (x y : SweepEngine) : (s.withSweep x).withSweep y = s.withSweep y := rfl
@[simp] theorem State.withSweep_self (s : State) : s.withSweep s.sweep = s := rfl

/-! ### After `withLink` -/

@[simp] theorem State.withLink_host (s : State) (x : Link) : (s.withLink x).host = s.host := rfl
@[simp] theorem State.withLink_windows (s : State) (x : Link) : (s.withLink x).windows = s.windows := rfl
@[simp] theorem State.withLink_port (s : State) (x : Link) : (s.withLink x).port = s.port := rfl
@[simp] theorem State.withLink_journal (s : State) (x : Link) : (s.withLink x).journal = s.journal := rfl
@[simp] theorem State.withLink_dirty (s : State) (x : Link) : (s.withLink x).dirty = s.dirty := rfl
@[simp] theorem State.withLink_sweep (s : State) (x : Link) : (s.withLink x).sweep = s.sweep := rfl
@[simp] theorem State.withLink_link (s : State) (x : Link) : (s.withLink x).link = x := rfl
@[simp] theorem State.withLink_seq (s : State) (x : Link) : (s.withLink x).seq = s.seq := rfl
@[simp] theorem State.withLink_rx (s : State) (x : Link) : (s.withLink x).rx = s.rx := rfl
@[simp] theorem State.withLink_role (s : State) (x : Link) : (s.withLink x).role = s.role := rfl
@[simp] theorem State.withLink_service (s : State) (x : Link) : (s.withLink x).service = s.service := rfl
@[simp] theorem State.withLink_time (s : State) (x : Link) : (s.withLink x).time = s.time := rfl
@[simp] theorem State.withLink_pending (s : State) (x : Link) : (s.withLink x).pending = s.pending := rfl
@[simp] theorem State.withLink_freeCount (s : State) (x : Link) : (s.withLink x).freeCount = s.freeCount := rfl
@[simp] theorem State.withLink_coldPin (s : State) (x : Link) : (s.withLink x).coldPin = s.coldPin := rfl
@[simp] theorem State.withLink_withLink (s : State) (x y : Link) : (s.withLink x).withLink y = s.withLink y := rfl
@[simp] theorem State.withLink_self (s : State) : s.withLink s.link = s := rfl

/-! ### After `withSeq` -/

@[simp] theorem State.withSeq_host (s : State) (x : Sequencer) : (s.withSeq x).host = s.host := rfl
@[simp] theorem State.withSeq_windows (s : State) (x : Sequencer) : (s.withSeq x).windows = s.windows := rfl
@[simp] theorem State.withSeq_port (s : State) (x : Sequencer) : (s.withSeq x).port = s.port := rfl
@[simp] theorem State.withSeq_journal (s : State) (x : Sequencer) : (s.withSeq x).journal = s.journal := rfl
@[simp] theorem State.withSeq_dirty (s : State) (x : Sequencer) : (s.withSeq x).dirty = s.dirty := rfl
@[simp] theorem State.withSeq_sweep (s : State) (x : Sequencer) : (s.withSeq x).sweep = s.sweep := rfl
@[simp] theorem State.withSeq_link (s : State) (x : Sequencer) : (s.withSeq x).link = s.link := rfl
@[simp] theorem State.withSeq_seq (s : State) (x : Sequencer) : (s.withSeq x).seq = x := rfl
@[simp] theorem State.withSeq_rx (s : State) (x : Sequencer) : (s.withSeq x).rx = s.rx := rfl
@[simp] theorem State.withSeq_role (s : State) (x : Sequencer) : (s.withSeq x).role = s.role := rfl
@[simp] theorem State.withSeq_service (s : State) (x : Sequencer) : (s.withSeq x).service = s.service := rfl
@[simp] theorem State.withSeq_time (s : State) (x : Sequencer) : (s.withSeq x).time = s.time := rfl
@[simp] theorem State.withSeq_pending (s : State) (x : Sequencer) : (s.withSeq x).pending = s.pending := rfl
@[simp] theorem State.withSeq_freeCount (s : State) (x : Sequencer) : (s.withSeq x).freeCount = s.freeCount := rfl
@[simp] theorem State.withSeq_coldPin (s : State) (x : Sequencer) : (s.withSeq x).coldPin = s.coldPin := rfl
@[simp] theorem State.withSeq_withSeq (s : State) (x y : Sequencer) : (s.withSeq x).withSeq y = s.withSeq y := rfl
@[simp] theorem State.withSeq_self (s : State) : s.withSeq s.seq = s := rfl

/-! ### After `withRx` -/

@[simp] theorem State.withRx_host (s : State) (x : Receiver) : (s.withRx x).host = s.host := rfl
@[simp] theorem State.withRx_windows (s : State) (x : Receiver) : (s.withRx x).windows = s.windows := rfl
@[simp] theorem State.withRx_port (s : State) (x : Receiver) : (s.withRx x).port = s.port := rfl
@[simp] theorem State.withRx_journal (s : State) (x : Receiver) : (s.withRx x).journal = s.journal := rfl
@[simp] theorem State.withRx_dirty (s : State) (x : Receiver) : (s.withRx x).dirty = s.dirty := rfl
@[simp] theorem State.withRx_sweep (s : State) (x : Receiver) : (s.withRx x).sweep = s.sweep := rfl
@[simp] theorem State.withRx_link (s : State) (x : Receiver) : (s.withRx x).link = s.link := rfl
@[simp] theorem State.withRx_seq (s : State) (x : Receiver) : (s.withRx x).seq = s.seq := rfl
@[simp] theorem State.withRx_rx (s : State) (x : Receiver) : (s.withRx x).rx = x := rfl
@[simp] theorem State.withRx_role (s : State) (x : Receiver) : (s.withRx x).role = s.role := rfl
@[simp] theorem State.withRx_service (s : State) (x : Receiver) : (s.withRx x).service = s.service := rfl
@[simp] theorem State.withRx_time (s : State) (x : Receiver) : (s.withRx x).time = s.time := rfl
@[simp] theorem State.withRx_pending (s : State) (x : Receiver) : (s.withRx x).pending = s.pending := rfl
@[simp] theorem State.withRx_freeCount (s : State) (x : Receiver) : (s.withRx x).freeCount = s.freeCount := rfl
@[simp] theorem State.withRx_coldPin (s : State) (x : Receiver) : (s.withRx x).coldPin = s.coldPin := rfl
@[simp] theorem State.withRx_withRx (s : State) (x y : Receiver) : (s.withRx x).withRx y = s.withRx y := rfl
@[simp] theorem State.withRx_self (s : State) : s.withRx s.rx = s := rfl

/-! ### After `withRole` -/

@[simp] theorem State.withRole_host (s : State) (x : Role) : (s.withRole x).host = s.host := rfl
@[simp] theorem State.withRole_windows (s : State) (x : Role) : (s.withRole x).windows = s.windows := rfl
@[simp] theorem State.withRole_port (s : State) (x : Role) : (s.withRole x).port = s.port := rfl
@[simp] theorem State.withRole_journal (s : State) (x : Role) : (s.withRole x).journal = s.journal := rfl
@[simp] theorem State.withRole_dirty (s : State) (x : Role) : (s.withRole x).dirty = s.dirty := rfl
@[simp] theorem State.withRole_sweep (s : State) (x : Role) : (s.withRole x).sweep = s.sweep := rfl
@[simp] theorem State.withRole_link (s : State) (x : Role) : (s.withRole x).link = s.link := rfl
@[simp] theorem State.withRole_seq (s : State) (x : Role) : (s.withRole x).seq = s.seq := rfl
@[simp] theorem State.withRole_rx (s : State) (x : Role) : (s.withRole x).rx = s.rx := rfl
@[simp] theorem State.withRole_role (s : State) (x : Role) : (s.withRole x).role = x := rfl
@[simp] theorem State.withRole_service (s : State) (x : Role) : (s.withRole x).service = s.service := rfl
@[simp] theorem State.withRole_time (s : State) (x : Role) : (s.withRole x).time = s.time := rfl
@[simp] theorem State.withRole_pending (s : State) (x : Role) : (s.withRole x).pending = s.pending := rfl
@[simp] theorem State.withRole_freeCount (s : State) (x : Role) : (s.withRole x).freeCount = s.freeCount := rfl
@[simp] theorem State.withRole_coldPin (s : State) (x : Role) : (s.withRole x).coldPin = s.coldPin := rfl
@[simp] theorem State.withRole_withRole (s : State) (x y : Role) : (s.withRole x).withRole y = s.withRole y := rfl
@[simp] theorem State.withRole_self (s : State) : s.withRole s.role = s := rfl

/-! ### After `withService` -/

@[simp] theorem State.withService_host (s : State) (x : Service) : (s.withService x).host = s.host := rfl
@[simp] theorem State.withService_windows (s : State) (x : Service) : (s.withService x).windows = s.windows := rfl
@[simp] theorem State.withService_port (s : State) (x : Service) : (s.withService x).port = s.port := rfl
@[simp] theorem State.withService_journal (s : State) (x : Service) : (s.withService x).journal = s.journal := rfl
@[simp] theorem State.withService_dirty (s : State) (x : Service) : (s.withService x).dirty = s.dirty := rfl
@[simp] theorem State.withService_sweep (s : State) (x : Service) : (s.withService x).sweep = s.sweep := rfl
@[simp] theorem State.withService_link (s : State) (x : Service) : (s.withService x).link = s.link := rfl
@[simp] theorem State.withService_seq (s : State) (x : Service) : (s.withService x).seq = s.seq := rfl
@[simp] theorem State.withService_rx (s : State) (x : Service) : (s.withService x).rx = s.rx := rfl
@[simp] theorem State.withService_role (s : State) (x : Service) : (s.withService x).role = s.role := rfl
@[simp] theorem State.withService_service (s : State) (x : Service) : (s.withService x).service = x := rfl
@[simp] theorem State.withService_time (s : State) (x : Service) : (s.withService x).time = s.time := rfl
@[simp] theorem State.withService_pending (s : State) (x : Service) : (s.withService x).pending = s.pending := rfl
@[simp] theorem State.withService_freeCount (s : State) (x : Service) : (s.withService x).freeCount = s.freeCount := rfl
@[simp] theorem State.withService_coldPin (s : State) (x : Service) : (s.withService x).coldPin = s.coldPin := rfl
@[simp] theorem State.withService_withService (s : State) (x y : Service) : (s.withService x).withService y = s.withService y := rfl
@[simp] theorem State.withService_self (s : State) : s.withService s.service = s := rfl

/-! ### After `withTime` -/

@[simp] theorem State.withTime_host (s : State) (x : Time) : (s.withTime x).host = s.host := rfl
@[simp] theorem State.withTime_windows (s : State) (x : Time) : (s.withTime x).windows = s.windows := rfl
@[simp] theorem State.withTime_port (s : State) (x : Time) : (s.withTime x).port = s.port := rfl
@[simp] theorem State.withTime_journal (s : State) (x : Time) : (s.withTime x).journal = s.journal := rfl
@[simp] theorem State.withTime_dirty (s : State) (x : Time) : (s.withTime x).dirty = s.dirty := rfl
@[simp] theorem State.withTime_sweep (s : State) (x : Time) : (s.withTime x).sweep = s.sweep := rfl
@[simp] theorem State.withTime_link (s : State) (x : Time) : (s.withTime x).link = s.link := rfl
@[simp] theorem State.withTime_seq (s : State) (x : Time) : (s.withTime x).seq = s.seq := rfl
@[simp] theorem State.withTime_rx (s : State) (x : Time) : (s.withTime x).rx = s.rx := rfl
@[simp] theorem State.withTime_role (s : State) (x : Time) : (s.withTime x).role = s.role := rfl
@[simp] theorem State.withTime_service (s : State) (x : Time) : (s.withTime x).service = s.service := rfl
@[simp] theorem State.withTime_time (s : State) (x : Time) : (s.withTime x).time = x := rfl
@[simp] theorem State.withTime_pending (s : State) (x : Time) : (s.withTime x).pending = s.pending := rfl
@[simp] theorem State.withTime_freeCount (s : State) (x : Time) : (s.withTime x).freeCount = s.freeCount := rfl
@[simp] theorem State.withTime_coldPin (s : State) (x : Time) : (s.withTime x).coldPin = s.coldPin := rfl
@[simp] theorem State.withTime_withTime (s : State) (x y : Time) : (s.withTime x).withTime y = s.withTime y := rfl
@[simp] theorem State.withTime_self (s : State) : s.withTime s.time = s := rfl

/-! ### After `withPending` -/

@[simp] theorem State.withPending_host (s : State) (x : List Instr) : (s.withPending x).host = s.host := rfl
@[simp] theorem State.withPending_windows (s : State) (x : List Instr) : (s.withPending x).windows = s.windows := rfl
@[simp] theorem State.withPending_port (s : State) (x : List Instr) : (s.withPending x).port = s.port := rfl
@[simp] theorem State.withPending_journal (s : State) (x : List Instr) : (s.withPending x).journal = s.journal := rfl
@[simp] theorem State.withPending_dirty (s : State) (x : List Instr) : (s.withPending x).dirty = s.dirty := rfl
@[simp] theorem State.withPending_sweep (s : State) (x : List Instr) : (s.withPending x).sweep = s.sweep := rfl
@[simp] theorem State.withPending_link (s : State) (x : List Instr) : (s.withPending x).link = s.link := rfl
@[simp] theorem State.withPending_seq (s : State) (x : List Instr) : (s.withPending x).seq = s.seq := rfl
@[simp] theorem State.withPending_rx (s : State) (x : List Instr) : (s.withPending x).rx = s.rx := rfl
@[simp] theorem State.withPending_role (s : State) (x : List Instr) : (s.withPending x).role = s.role := rfl
@[simp] theorem State.withPending_service (s : State) (x : List Instr) : (s.withPending x).service = s.service := rfl
@[simp] theorem State.withPending_time (s : State) (x : List Instr) : (s.withPending x).time = s.time := rfl
@[simp] theorem State.withPending_pending (s : State) (x : List Instr) : (s.withPending x).pending = x := rfl
@[simp] theorem State.withPending_freeCount (s : State) (x : List Instr) : (s.withPending x).freeCount = s.freeCount := rfl
@[simp] theorem State.withPending_coldPin (s : State) (x : List Instr) : (s.withPending x).coldPin = s.coldPin := rfl
@[simp] theorem State.withPending_withPending (s : State) (x y : List Instr) : (s.withPending x).withPending y = s.withPending y := rfl
@[simp] theorem State.withPending_self (s : State) : s.withPending s.pending = s := rfl

/-! ### After `withFreeCount` -/

@[simp] theorem State.withFreeCount_host (s : State) (x : Nat) : (s.withFreeCount x).host = s.host := rfl
@[simp] theorem State.withFreeCount_windows (s : State) (x : Nat) : (s.withFreeCount x).windows = s.windows := rfl
@[simp] theorem State.withFreeCount_port (s : State) (x : Nat) : (s.withFreeCount x).port = s.port := rfl
@[simp] theorem State.withFreeCount_journal (s : State) (x : Nat) : (s.withFreeCount x).journal = s.journal := rfl
@[simp] theorem State.withFreeCount_dirty (s : State) (x : Nat) : (s.withFreeCount x).dirty = s.dirty := rfl
@[simp] theorem State.withFreeCount_sweep (s : State) (x : Nat) : (s.withFreeCount x).sweep = s.sweep := rfl
@[simp] theorem State.withFreeCount_link (s : State) (x : Nat) : (s.withFreeCount x).link = s.link := rfl
@[simp] theorem State.withFreeCount_seq (s : State) (x : Nat) : (s.withFreeCount x).seq = s.seq := rfl
@[simp] theorem State.withFreeCount_rx (s : State) (x : Nat) : (s.withFreeCount x).rx = s.rx := rfl
@[simp] theorem State.withFreeCount_role (s : State) (x : Nat) : (s.withFreeCount x).role = s.role := rfl
@[simp] theorem State.withFreeCount_service (s : State) (x : Nat) : (s.withFreeCount x).service = s.service := rfl
@[simp] theorem State.withFreeCount_time (s : State) (x : Nat) : (s.withFreeCount x).time = s.time := rfl
@[simp] theorem State.withFreeCount_pending (s : State) (x : Nat) : (s.withFreeCount x).pending = s.pending := rfl
@[simp] theorem State.withFreeCount_freeCount (s : State) (x : Nat) : (s.withFreeCount x).freeCount = x := rfl
@[simp] theorem State.withFreeCount_coldPin (s : State) (x : Nat) : (s.withFreeCount x).coldPin = s.coldPin := rfl
@[simp] theorem State.withFreeCount_withFreeCount (s : State) (x y : Nat) : (s.withFreeCount x).withFreeCount y = s.withFreeCount y := rfl
@[simp] theorem State.withFreeCount_self (s : State) : s.withFreeCount s.freeCount = s := rfl

/-! ### After `withColdPin` -/

@[simp] theorem State.withColdPin_host (s : State) (x : Bool) : (s.withColdPin x).host = s.host := rfl
@[simp] theorem State.withColdPin_windows (s : State) (x : Bool) : (s.withColdPin x).windows = s.windows := rfl
@[simp] theorem State.withColdPin_port (s : State) (x : Bool) : (s.withColdPin x).port = s.port := rfl
@[simp] theorem State.withColdPin_journal (s : State) (x : Bool) : (s.withColdPin x).journal = s.journal := rfl
@[simp] theorem State.withColdPin_dirty (s : State) (x : Bool) : (s.withColdPin x).dirty = s.dirty := rfl
@[simp] theorem State.withColdPin_sweep (s : State) (x : Bool) : (s.withColdPin x).sweep = s.sweep := rfl
@[simp] theorem State.withColdPin_link (s : State) (x : Bool) : (s.withColdPin x).link = s.link := rfl
@[simp] theorem State.withColdPin_seq (s : State) (x : Bool) : (s.withColdPin x).seq = s.seq := rfl
@[simp] theorem State.withColdPin_rx (s : State) (x : Bool) : (s.withColdPin x).rx = s.rx := rfl
@[simp] theorem State.withColdPin_role (s : State) (x : Bool) : (s.withColdPin x).role = s.role := rfl
@[simp] theorem State.withColdPin_service (s : State) (x : Bool) : (s.withColdPin x).service = s.service := rfl
@[simp] theorem State.withColdPin_time (s : State) (x : Bool) : (s.withColdPin x).time = s.time := rfl
@[simp] theorem State.withColdPin_pending (s : State) (x : Bool) : (s.withColdPin x).pending = s.pending := rfl
@[simp] theorem State.withColdPin_freeCount (s : State) (x : Bool) : (s.withColdPin x).freeCount = s.freeCount := rfl
@[simp] theorem State.withColdPin_coldPin (s : State) (x : Bool) : (s.withColdPin x).coldPin = x := rfl
@[simp] theorem State.withColdPin_withColdPin (s : State) (x y : Bool) : (s.withColdPin x).withColdPin y = s.withColdPin y := rfl
@[simp] theorem State.withColdPin_self (s : State) : s.withColdPin s.coldPin = s := rfl

/-! ### Equality -/

/-- Two states are equal when their fields are. -/
theorem State.ext_fields {s t : State} (h1 : s.host = t.host) (h2 : s.windows = t.windows) (h3 : s.port = t.port)
    (h4 : s.journal = t.journal) (h5 : s.dirty = t.dirty) (h6 : s.sweep = t.sweep) (h7 : s.link = t.link)
    (h8 : s.seq = t.seq) (h9 : s.rx = t.rx) (h10 : s.role = t.role) (h11 : s.service = t.service)
    (h12 : s.time = t.time) (h13 : s.pending = t.pending) (h14 : s.freeCount = t.freeCount)
    (h15 : s.coldPin = t.coldPin) : s = t := by
  cases s; cases t; simp_all

end Sys2Proof.Machine
end

