-- ==== Sys2Proof/Laws/Settle.lean ====
section
/-! SUPPORT. What `settle` can change, said once: every field outside `SameButSettled` reads as before. -/

namespace Sys2Proof.Machine

theorem SameButSettled.refl (s : State) : SameButSettled s s := by simp [SameButSettled]

theorem SameButSettled.trans {s t u : State} (h : SameButSettled s t) (k : SameButSettled t u) : SameButSettled s u := by
  unfold SameButSettled at *
  grind

theorem enterHail_same (s : State) : SameButSettled s s.enterHail := by
  unfold State.enterHail
  split
  · exact SameButSettled.refl s
  · exact SameButSettled.refl s

theorem withQueue_same (s : State) (q : List QueuedRequest) : SameButSettled s (s.withHost { s.host with queue := q }) :=
  SameButSettled.refl s

theorem answer_same (s : State) (tag : Tag) (st : HostStatus) (d : Option ReadData) :
    SameButSettled s (s.answer tag st d) :=
  SameButSettled.refl s

theorem answerHeads_same (l : List QueuedRequest) (s : State) : SameButSettled s (State.answerHeads l s) := by
  induction l generalizing s with
  | nil => exact withQueue_same s []
  | cons r l ih =>
    unfold State.answerHeads
    split
    · exact (answer_same s _ _ _).trans (ih _)
    · exact withQueue_same s _
    · exact withQueue_same s _
    · exact withQueue_same s _

/-- Sending the oldest WAITING entry changes no entry but in its sending state. -/
theorem sendFirst_map (l : List JournalEntry) :
    (sendFirst l).map (fun e => { e with sent := false, everSent := false }) =
      l.map (fun e => { e with sent := false, everSent := false }) := by
  induction l with
  | nil => rfl
  | cons e l ih =>
    unfold sendFirst
    split
    · simp [ih]
    · simp

/-- Sending an entry changes the lane, the sequencer's two times and the entry's sending state (R23, R118). -/
theorem sendEntry_same (s : State) (e : JournalEntry) : SameButSettled s (s.sendEntry e) := by
  simp [SameButSettled, State.sendEntry, State.beginFrame, State.withEntries, sendFirst_map]

theorem sourceFrame_same (s : State) (probe : Bool) : SameButSettled s (s.sourceFrame probe) := by
  unfold State.sourceFrame
  split
  · exact sendEntry_same s _
  · split
    · exact SameButSettled.refl s
    · exact SameButSettled.refl s

theorem sinkFrame_same (s : State) : SameButSettled s s.sinkFrame := by
  unfold State.sinkFrame
  repeat' split
  all_goals exact SameButSettled.refl s

theorem chooseFrame_same (s : State) (probe : Bool) : SameButSettled s (s.chooseFrame probe) := by
  unfold State.chooseFrame
  repeat' split
  all_goals first
    | exact sourceFrame_same s probe
    | exact sinkFrame_same s
    | exact SameButSettled.refl s

theorem timeStall_same (s : State) : SameButSettled s s.timeStall := by
  unfold State.timeStall
  repeat' split
  all_goals exact SameButSettled.refl s

theorem choosePosition_same (s : State) : SameButSettled s s.choosePosition := by
  unfold State.choosePosition
  split
  all_goals exact SameButSettled.refl s

theorem clearPassedOver_same (s : State) : SameButSettled s s.clearPassedOver := by
  unfold State.clearPassedOver
  split
  all_goals exact SameButSettled.refl s

/-- Everything `settleWith` can do: only what `SameButSettled` leaves open changes. -/
theorem settleWith_same (s : State) (probe : Bool) : SameButSettled s (s.settleWith probe) :=
  (enterHail_same s).trans ((answerHeads_same _ _).trans ((chooseFrame_same _ _).trans
    ((timeStall_same _).trans ((choosePosition_same _).trans (clearPassedOver_same _)))))

theorem settle_same (s : State) : SameButSettled s s.settle := settleWith_same s false

/-! ### Each piece of `settle` by the fields it touches -/

/-- The entry to HAIL touches the Link Controller alone (R103). -/
theorem enterHail_eq (s : State) : s.enterHail = s.withLink s.enterHail.link := by
  unfold State.enterHail
  split <;> rfl

/-- The condition of a request at the head is read from the window table, the role, the override, the apply queue and the
journal's entries (R47). -/
theorem condition_congr {s t : State} (hw : t.windows = s.windows) (hr : t.role = s.role)
    (ho : t.service.override = s.service.override) (hq : t.rx.applyQueue = s.rx.applyQueue)
    (hj : t.journal.entries = s.journal.entries) (r : QueuedRequest) : t.condition r = s.condition r := by
  unfold State.condition State.hazard State.classify State.owner State.hasRoom State.merges
  rw [hw, hr, ho, hq, hj]

/-- Answering at the head touches the Host Port alone. -/
theorem answerHeads_eq (l : List QueuedRequest) (s : State) :
    State.answerHeads l s = s.withHost (State.answerHeads l s).host := by
  induction l generalizing s with
  | nil => rfl
  | cons r l ih =>
    unfold State.answerHeads
    split
    · rw [ih]; rfl
    all_goals rfl

/-- The answers at the head follow those given before. -/
theorem answerHeads_responses (l : List QueuedRequest) (s : State) :
    ∃ more, (State.answerHeads l s).host.responses = s.host.responses ++ more := by
  induction l generalizing s with
  | nil => exact ⟨[], by simp [State.answerHeads]⟩
  | cons r l ih =>
    unfold State.answerHeads
    split
    · rename_i st _
      obtain ⟨more, h⟩ := ih (s.answer r.tag st none)
      exact ⟨{ tag := r.tag, status := st, data := none } :: more, by rw [h]; simp [State.answer]⟩
    all_goals exact ⟨[], by simp⟩

/-- A request that is not answered at the head stays there. -/
theorem answerHeads_stays (r : QueuedRequest) (l : List QueuedRequest) (s : State)
    (h : ∀ st, s.condition r ≠ .answered st) :
    State.answerHeads (r :: l) s = s.withHost { s.host with queue := r :: l } := by
  unfold State.answerHeads
  split
  · rename_i st hst; exact absurd hst (h st)
  all_goals rfl

/-- A request that is answered at the head leaves the queue with the status of its condition. -/
theorem answerHeads_leaves (r : QueuedRequest) (l : List QueuedRequest) (s : State) (status : HostStatus)
    (h : s.condition r = .answered status) :
    State.answerHeads (r :: l) s = State.answerHeads l (s.answer r.tag status none) := by
  rw [State.answerHeads]
  simp [h]

theorem timeStall_eq (s : State) :
    s.timeStall = s.withJournal { s.journal with stallStart := s.timeStall.journal.stallStart } := by
  unfold State.timeStall
  repeat' split
  all_goals rfl

theorem choosePosition_eq (s : State) :
    s.choosePosition = s.withSweep { s.sweep with position := s.choosePosition.sweep.position } := by
  unfold State.choosePosition
  split
  · rfl
  · rfl

theorem clearPassedOver_eq (s : State) :
    s.clearPassedOver = s.withPort { s.port with passedOver := s.clearPassedOver.port.passedOver } := by
  unfold State.clearPassedOver
  split <;> rfl

/-- The choice of the lane's frame touches the link's lane and HELLO times, the sending state of the journal's entries, the
sequencer's two times, and the sink transmitter's flags and report queue. -/
theorem chooseFrame_eq (s : State) (probe : Bool) :
    s.chooseFrame probe =
      (((s.withLink
              { s.link with
                lane := (s.chooseFrame probe).link.lane, lastHello := (s.chooseFrame probe).link.lastHello
                helloDue := (s.chooseFrame probe).link.helloDue }).withEntries
            (s.chooseFrame probe).journal.entries).withSeq
          { s.seq with
            ackStart := (s.chooseFrame probe).seq.ackStart, lastSend := (s.chooseFrame probe).seq.lastSend }).withRx
        (s.chooseFrame probe).rx := by
  unfold State.chooseFrame State.sourceFrame State.sinkFrame
  repeat' split
  all_goals rfl

/-- After `settle` the link state and the epoch are those that the entry to HAIL leaves. -/
theorem settleWith_link (s : State) (probe : Bool) :
    (s.settleWith probe).link.state = s.enterHail.link.state ∧ (s.settleWith probe).link.epoch = s.enterHail.link.epoch := by
  unfold State.settleWith
  simp only
  rw [clearPassedOver_eq, choosePosition_eq, timeStall_eq, chooseFrame_eq, answerHeads_eq]
  exact ⟨rfl, rfl⟩

theorem clearPassedOver_host (s : State) : s.clearPassedOver.host = s.host := by rw [clearPassedOver_eq]; rfl
theorem choosePosition_host (s : State) : s.choosePosition.host = s.host := by rw [choosePosition_eq]; rfl
theorem timeStall_host (s : State) : s.timeStall.host = s.host := by rw [timeStall_eq]; rfl
theorem chooseFrame_host (s : State) (probe : Bool) : (s.chooseFrame probe).host = s.host := by rw [chooseFrame_eq]; rfl

/-- After `settle` the Host Port is as the answers at the head leave it. -/
theorem settleWith_host (s : State) (probe : Bool) :
    (s.settleWith probe).host = (State.answerHeads s.host.queue s.enterHail).host := by
  have h : s.enterHail.host = s.host := by rw [enterHail_eq]; rfl
  unfold State.settleWith
  simp only [clearPassedOver_host, choosePosition_host, timeStall_host, chooseFrame_host, h]

/-- After `settle` the answers given before stand first. -/
theorem settleWith_responses (s : State) (probe : Bool) :
    ∃ more, (s.settleWith probe).host.responses = s.host.responses ++ more := by
  obtain ⟨more, h⟩ := answerHeads_responses s.enterHail.host.queue s.enterHail
  refine ⟨more, ?_⟩
  have h2 : s.enterHail.host = s.host := by unfold State.enterHail; split <;> rfl
  rw [h2] at h
  rw [← h]
  unfold State.settleWith
  simp only
  rw [clearPassedOver_eq, choosePosition_eq, timeStall_eq, chooseFrame_eq, h2]
  rfl

/-- A unit that is neither SOURCE nor SINK puts no frame on the lane and enters no link state. -/
theorem settleWith_quiet (s : State) (probe : Bool) (h : s.role = .isolated ∨ s.role = .draining) :
    (s.settleWith probe).link = s.link ∧ (s.settleWith probe).seq = s.seq ∧ (s.settleWith probe).rx = s.rx ∧
      (s.settleWith probe).journal.entries = s.journal.entries := by
  have h1 : s.enterHail = s := by
    unfold State.enterHail
    rw [if_neg]
    rcases h with h | h <;> simp [h]
  have h2 : ∀ t : State, t.role = s.role → t.chooseFrame probe = t := by
    intro t ht
    unfold State.chooseFrame
    rcases h with h | h <;> rw [h] at ht <;> cases t.link.lane <;> simp [ht]
  unfold State.settleWith
  simp only [h1]
  rw [clearPassedOver_eq, choosePosition_eq, timeStall_eq, h2 _ (by rw [answerHeads_eq]; rfl), answerHeads_eq]
  exact ⟨rfl, rfl, rfl, rfl⟩

theorem ite_withHost (c : Bool) (a b : State) (h : HostPort) :
    (if c = true then a else b).withHost h = if c = true then a.withHost h else b.withHost h := by cases c <;> rfl

/-- The choice of the lane's frame does not look at the Host Port. -/
theorem chooseFrame_withHost (s : State) (h : HostPort) (probe : Bool) :
    (s.withHost h).chooseFrame probe = (s.chooseFrame probe).withHost h := by
  have h1 : (s.withHost h).sourceFrame probe = (s.sourceFrame probe).withHost h := by
    unfold State.sourceFrame
    rw [State.withHost_journal]
    split
    · rfl
    · rw [ite_withHost]; rfl
  have h2 : (s.withHost h).sinkFrame = s.sinkFrame.withHost h := by
    unfold State.sinkFrame
    rw [State.withHost_rx]
    split
    · rfl
    · rfl
    · rw [ite_withHost, ite_withHost]; rfl
  unfold State.chooseFrame
  rw [State.withHost_link, State.withHost_role, h1, h2]
  split
  · rfl
  · split
    · rfl
    · rw [ite_withHost]; rfl
    · rfl
    · rw [ite_withHost]; rfl
    · rfl

/-- After `settle` the lane, the link, the entries, the sequencer and the receiver are as the entry to HAIL and then the
choice of the frame leave them (R103, R118, R147). -/
theorem settleWith_lane (s : State) (probe : Bool) :
    (s.settleWith probe).link = (s.enterHail.chooseFrame probe).link ∧
      (s.settleWith probe).journal.entries = (s.enterHail.chooseFrame probe).journal.entries ∧
      (s.settleWith probe).seq = (s.enterHail.chooseFrame probe).seq ∧
      (s.settleWith probe).rx = (s.enterHail.chooseFrame probe).rx := by
  unfold State.settleWith
  simp only
  rw [clearPassedOver_eq, choosePosition_eq, timeStall_eq, answerHeads_eq, chooseFrame_withHost]
  exact ⟨rfl, rfl, rfl, rfl⟩

/-- The oldest WAITING entry becomes SENT and ever sent, and no other changes (R23). -/
theorem sendFirst_append (front : List JournalEntry) (e : JournalEntry) (rest : List JournalEntry)
    (hf : ∀ x ∈ front, x.sent = true) (he : e.sent = false) :
    sendFirst (front ++ e :: rest) = front ++ { e with sent := true, everSent := true } :: rest := by
  induction front with
  | nil => simp [sendFirst, he]
  | cons a l ih => simp [sendFirst, hf a (by simp), ih fun x hx => hf x (by simp [hx])]

/-- Without a SWEEPING window no position is taken. -/
theorem choosePosition_none (s : State) (h : ∀ w : WinIdx, s.windows[w].state ≠ .sweeping)
    (hp : s.sweep.position = none) : s.choosePosition.sweep.position = none := by
  unfold State.choosePosition
  rw [hp]
  simp only [State.withSweep_sweep]
  rw [List.findSome?_eq_none_iff]
  intro w _
  rw [if_neg (h w)]

end Sys2Proof.Machine
end

