-- ==== Sys2Proof/Laws/Ops.lean ====
section
/-! SUPPORT. What each shared operation does, said once: the closed form where there is a short one, and otherwise the fields
it leaves as they were. -/

namespace Sys2Proof.Machine

/-! ### The cold reset pin -/

theorem unlessHeld_held {s : State} (t : State) (h : s.coldPin = true) : s.unlessHeld t = s := if_pos h

theorem unlessHeld_released {s : State} (t : State) (h : s.coldPin = false) : s.unlessHeld t = t :=
  if_neg (by simp [h])

/-- Either edge of the pin puts every block at its cold reset values (R182). -/
theorem cold_values (s : State) (pin : Bool) : ColdValues (s.cold pin) := by
  unfold ColdValues State.cold
  simp [State.reset, TestRecord.reset, Timers.reset, Window.reset]

/-! ### What is due at once -/

theorem prompt_held {s : State} (h : s.coldPin = true) : s.prompt = s := if_pos h

theorem take_held {s : State} (f : State → State) (h : s.coldPin = true) : s.take f = s := if_pos h

theorem take_released {s : State} (f : State → State) (h : s.coldPin = false) : s.take f = f s.prompt :=
  if_neg (by simp [h])

theorem examineAll_none (n : Nat) {s : State} (h : s.examineDue = false) : State.examineAll n s = s := by
  cases n with
  | zero => rfl
  | succ n => simp [State.examineAll, h]

theorem examineNow_none {s : State} (h : s.examineDue = false) : s.examineNow = s := if_neg (by simp [h])

theorem grantNow_none {s : State} (h : s.grantDue = false) : s.grantNow = s := by
  unfold State.grantDue at h
  unfold State.grantNow
  split
  · rfl
  · rename_i h1
    split
    · rfl
    · rename_i h2; simp [h1, h2] at h

/-- With nothing due at once an event finds the state as it is. -/
theorem prompt_ready {s : State} (h : Ready s) : s.prompt = s := by
  unfold State.prompt
  rw [examineAll_none _ h.2.1, grantNow_none h.2.2]
  simp

theorem take_ready {s : State} (f : State → State) (h : Ready s) : s.take f = f s := by
  rw [take_released f h.1, prompt_ready h]

/-- A service command of the right argument length is taken (R168). -/
theorem takeCommand_taken {s : State} (echo code : Byte) (args : List Byte) (f : State → State) (h : Ready s)
    (hl : args.length = argumentLength code.toNat) : s.takeCommand echo code args f = f s := by
  unfold State.takeCommand
  rw [take_ready _ h]
  exact if_pos hl

/-- A service command of another argument length is refused (R168). -/
theorem takeCommand_refused {s : State} (echo code : Byte) (args : List Byte) (f : State → State) (h : Ready s)
    (hl : args.length ≠ argumentLength code.toNat) : s.takeCommand echo code args f = s.refuse echo code .value := by
  unfold State.takeCommand
  rw [take_ready _ h]
  exact if_neg hl

/-! ### Answers -/

/-- Tags answered in list order: their records and their places in the set of tags in use go, and the answers follow the ones
given before (R35, R55). -/
theorem answerTags_eq (s : State) (tags : List Tag) (status : HostStatus) :
    s.answerTags tags status =
      s.withHost
        { s.host with
          held := s.host.held.filter fun r => r.tag ∉ tags
          tags := s.host.tags.filter fun t => t ∉ tags
          responses :=
            s.host.responses ++ tags.map fun t => ({ tag := t, status := status, data := none } : HostResponse) } := by
  induction tags generalizing s with
  | nil => simp [State.answerTags, State.withHost]
  | cons t l ih =>
    have h : s.answerTags (t :: l) status = (s.answerHeld t status).answerTags l status := rfl
    rw [h, ih]
    simp only [State.answerHeld, State.answer, State.withHost, List.filter_filter, List.mem_cons, not_or, List.map_cons,
      List.append_assoc, List.singleton_append]
    congr 2
    · congr 1; funext a; by_cases h1 : a.tag = t <;> by_cases h2 : a.tag ∈ l <;> simp [h1, h2]
    · congr 1; funext a; by_cases h1 : a = t <;> by_cases h2 : a ∈ l <;> simp [h1, h2]

/-! ### Windows and the dirty set -/

theorem updateWindows_get (s : State) (f : Window → Window) (w : WinIdx) :
    (s.updateWindows f).windows[w] = f s.windows[w] := by
  simp [State.updateWindows]

/-- Suspending one window: its record, the event, and a sweep position in it (R10, R14, R15, R88). -/
theorem suspendWindow_eq (s : State) (w : WinIdx) (cause : SuspendCause) :
    let here := s.sweep.position.any fun p => p.window == w
    s.suspendWindow w cause =
      ((s.withWindows (s.windows.set w { s.windows[w] with state := .suspended, cause := cause })).withSweep
          { position := if here then none else s.sweep.position
            inFlight := s.sweep.inFlight.map fun r => { r with current := r.current && !here } }).withService
        { s.service with
          events :=
            if s.windows[w].capturing then s.service.events ||| EventCause.windowSuspended.flag
            else s.service.events } := by
  have hid : ∀ o : Option SweepRead, o.map (fun r => { r with current := r.current && true }) = o := by
    intro o; cases o <;> simp
  intro here
  unfold State.suspendWindow State.dropPositionIn
  rcases hp : s.sweep.position with _ | p
  · have hh : here = false := by simp [here, hp]
    have hp' : (s.updateWindow w fun x => x.suspend cause).sweep.position = none := hp
    rw [hp', hh]
    apply State.ext_fields <;> first | rfl | (simp only [Bool.not_false, hid]; split <;> rfl) | skip
    · simp only [Bool.not_false, hid, ← hp]; split <;> rfl
  · have hp' : (s.updateWindow w fun x => x.suspend cause).sweep.position = some p := hp
    by_cases hw : p.window = w
    · have hh : here = true := by simp [here, hp, hw]
      rw [hp', hh]
      simp only [hw, if_true]
      apply State.ext_fields <;> split <;> simp_all [State.raise, Service.raise, State.updateWindow, State.dropPosition, Window.suspend]
    · have hh : here = false := by simp [here, hp, hw]
      rw [hp', hh]
      simp only [hw, if_false]
      have h6 : ({ position := some p, inFlight := s.sweep.inFlight } : SweepEngine) = s.sweep := by rw [← hp]
      simp only [Bool.not_false, hid]
      apply State.ext_fields <;> split <;> simp_all [State.raise, Service.raise, State.updateWindow, Window.suspend]

/-- Suspending every window that meets `p`, window by window (R13, R16, R17). -/
theorem suspendWhere_get (s : State) (p : Window → Bool) (cause : SuspendCause) (w : WinIdx) :
    (s.suspendWhere p cause).windows[w] =
      if p s.windows[w] then { s.windows[w] with state := .suspended, cause := cause } else s.windows[w] := by
  have h : (s.suspendWhere p cause).windows = (s.updateWindows fun w => if p w then w.suspend cause else w).windows := by
    unfold State.suspendWhere; split <;> rfl
  rw [h, updateWindows_get]; rfl

/-- Suspending every window that meets `p`: what changes beside the windows (R13, R88). -/
theorem suspendWhere_eq (s : State) (p : Window → Bool) (cause : SuspendCause) :
    s.suspendWhere p cause =
      ((s.withWindows (s.suspendWhere p cause).windows).withSweep
          { position := none, inFlight := s.sweep.inFlight.map fun r => { r with current := false } }).withService
        { s.service with
          events :=
            if ∃ w : WinIdx, p s.windows[w] = true ∧ s.windows[w].capturing = true then
              s.service.events ||| EventCause.windowSuspended.flag
            else s.service.events } := by
  unfold State.suspendWhere
  by_cases h : ∃ w : WinIdx, p s.windows[w] = true ∧ s.windows[w].capturing = true
  · have h' : (allWindows.any fun w => p s.windows[w] && s.windows[w].capturing) = true := by
      simpa [allWindows] using h
    simp only [h', h, if_true]; rfl
  · have h' : (allWindows.any fun w => p s.windows[w] && s.windows[w].capturing) = false := by
      simpa [allWindows] using h
    simp only [h', h, if_false]; rfl

/-- A window has no dirty granule exactly when the dirty set holds none of its local range (R76). -/
theorem dirtyCount_eq_zero (s : State) (w : WinIdx) :
    s.dirtyCount w = 0 ↔ ∀ g ∈ s.dirty, s.windows[w].localHas g = false := by
  simp only [State.dirtyCount, countRange_eq_zero, Window.localHas]
  simp

/-- A SWEEPING window that is clean passes to MIRRORING with SWEEP_DONE (R12). -/
theorem sweepTest_clean (s : State) (w : WinIdx) (hs : s.windows[w].state = .sweeping)
    (hd : ∀ g ∈ s.dirty, s.windows[w].localHas g = false)
    (he : ∀ e ∈ s.journal.entries, e.kind = .sweep → e.window ≠ w) :
    s.sweepTest w =
      (s.withWindows (s.windows.set w { s.windows[w] with state := .mirroring })).withService
        { s.service with events := s.service.events ||| EventCause.sweepDone.flag } := by
  have h3 : (s.journal.entries.all fun e => e.kind != .sweep || e.window != w) = true := by
    simp only [List.all_eq_true, Bool.or_eq_true, bne_iff_ne]
    intro e h
    by_cases hk : e.kind = .sweep
    · exact Or.inr (he e h hk)
    · exact Or.inl hk
  unfold State.sweepTest
  rw [if_pos ⟨hs, (dirtyCount_eq_zero s w).2 hd, h3⟩]
  rfl

/-- Any other window is left as it is by the R12 test. -/
theorem sweepTest_other (s : State) (w : WinIdx)
    (h : ¬ (s.windows[w].state = .sweeping ∧ (∀ g ∈ s.dirty, s.windows[w].localHas g = false) ∧
      ∀ e ∈ s.journal.entries, e.kind = .sweep → e.window ≠ w)) :
    s.sweepTest w = s := by
  unfold State.sweepTest
  rw [if_neg]
  rintro ⟨h1, h2, h3⟩
  refine h ⟨h1, (dirtyCount_eq_zero s w).1 h2, ?_⟩
  intro e he hk
  simp only [List.all_eq_true, Bool.or_eq_true, bne_iff_ne] at h3
  rcases h3 e he with h4 | h4
  · exact absurd hk h4
  · exact h4

/-- A marking adds one granule of an enabled window (R2, R77). -/
theorem mem_markDirty (s : State) (w : WinIdx) (g a : Nat) :
    a ∈ (s.markDirty w g).dirty ↔
      a ∈ s.dirty ∨ (a = g ∧ s.windows[w].enabled = true ∧ s.windows[w].localHas g = true) := by
  unfold State.markDirty
  split
  · rename_i h
    simp only [Bool.and_eq_true] at h
    simp only [State.withDirty_dirty, mem_insertBy_id, h.1, h.2, and_self, and_true, or_comm]
  · rename_i h
    simp only [Bool.and_eq_true] at h
    constructor
    · exact Or.inl
    · rintro (h1 | ⟨_, h2⟩)
      · exact h1
      · exact absurd h2 h

theorem localHas_iff (w : Window) (g : Nat) : w.localHas g = true ↔ w.localBase ≤ g ∧ g < w.localBase + w.size := by
  simp [Window.localHas]

/-- Marking a window adds every granule of it, if it is enabled (R2, R77). -/
theorem mem_markWindow (s : State) (w : WinIdx) (a : Nat) :
    a ∈ (s.markWindow w).dirty ↔
      a ∈ s.dirty ∨ (s.windows[w].enabled = true ∧ s.windows[w].localHas a = true) := by
  unfold State.markWindow
  split
  · rename_i h
    simp only [State.withDirty_dirty, mem_insertRange, h, localHas_iff, true_and]
  · rename_i h
    simp only [h, false_and, or_false, Bool.false_eq_true]

theorem markDirty_eq (s : State) (w : WinIdx) (g : Nat) : s.markDirty w g = s.withDirty (s.markDirty w g).dirty := by
  unfold State.markDirty; split <;> rfl

theorem markWindow_eq (s : State) (w : WinIdx) : s.markWindow w = s.withDirty (s.markWindow w).dirty := by
  unfold State.markWindow; split <;> rfl

theorem markWindows_eq (l : List WinIdx) (s : State) :
    l.foldl State.markWindow s = s.withDirty (l.foldl State.markWindow s).dirty := by
  induction l generalizing s with
  | nil => rfl
  | cons w l ih =>
    simp only [List.foldl_cons]
    rw [ih, markWindow_eq s w]
    rfl

theorem mem_markWindows (l : List WinIdx) (s : State) (a : Nat) :
    a ∈ (l.foldl State.markWindow s).dirty ↔
      a ∈ s.dirty ∨ ∃ v ∈ l, s.windows[v].enabled = true ∧ s.windows[v].localHas a = true := by
  induction l generalizing s with
  | nil => simp
  | cons w l ih =>
    have hw : (s.markWindow w).windows = s.windows := by rw [markWindow_eq]; rfl
    simp only [List.foldl_cons, ih, mem_markWindow, hw, List.mem_cons, exists_eq_or_imp, or_assoc]

/-- Marking every window changes the dirty set alone (R79). -/
theorem markAll_eq (s : State) : s.markAll = s.withDirty s.markAll.dirty := markWindows_eq allWindows s

/-- Marking every window adds the granules of every enabled one (R79). -/
theorem mem_markAll (s : State) (a : Nat) :
    a ∈ s.markAll.dirty ↔
      a ∈ s.dirty ∨ ∃ v : WinIdx, s.windows[v].enabled = true ∧ s.windows[v].localHas a = true := by
  unfold State.markAll
  rw [mem_markWindows]
  simp [allWindows]

theorem markDirty_sorted (s : State) (w : WinIdx) (g : Nat) (h : s.dirty.Pairwise (· < ·)) :
    (s.markDirty w g).dirty.Pairwise (· < ·) := by
  unfold State.markDirty
  split
  · exact insertBy_id_sorted g s.dirty h
  · exact h

theorem markWindow_sorted (s : State) (w : WinIdx) (h : s.dirty.Pairwise (· < ·)) :
    (s.markWindow w).dirty.Pairwise (· < ·) := by
  unfold State.markWindow
  split
  · exact insertRange_sorted _ _ s.dirty h
  · exact h

theorem markAll_sorted (s : State) (h : s.dirty.Pairwise (· < ·)) : s.markAll.dirty.Pairwise (· < ·) := by
  have : ∀ l : List WinIdx, ∀ t : State, t.dirty.Pairwise (· < ·) →
      (l.foldl State.markWindow t).dirty.Pairwise (· < ·) := by
    intro l
    induction l with
    | nil => exact fun _ h => h
    | cons w l ih => exact fun t ht => ih _ (markWindow_sorted t w ht)
  exact this allWindows s h

/-! ### Conversion and discard -/

theorem discard_fold (l : List JournalEntry) (s : State) (status : HostStatus) :
    l.foldl (fun s e => s.answerTags e.heldTags status) s = s.answerTags (l.flatMap (·.heldTags)) status := by
  induction l generalizing s with
  | nil => rfl
  | cons e l ih =>
    simp only [List.foldl_cons, ih, List.flatMap_cons]
    simp only [State.answerTags, List.foldl_append]

/-- Discard answers the held tags UNMIRRORED and empties the journal, with no dirty marking (R39). -/
theorem discard_eq (s : State) :
    s.discard = (s.answerTags (s.journal.entries.flatMap (·.heldTags)) .unmirrored).withEntries [] := by
  unfold State.discard; rw [discard_fold]

/-- The Host Port after a discard (R39, R55). -/
theorem discard_host (s : State) :
    s.discard.host =
      { s.host with
        held := s.host.held.filter fun r => r.tag ∉ s.journal.entries.flatMap (·.heldTags)
        tags := s.host.tags.filter fun t => t ∉ s.journal.entries.flatMap (·.heldTags)
        responses :=
          s.host.responses ++
            (s.journal.entries.flatMap (·.heldTags)).map fun t =>
              ({ tag := t, status := .unmirrored, data := none } : HostResponse) } := by
  rw [discard_eq, answerTags_eq]
  rfl

theorem answerTags_withDirty (s : State) (x : List Nat) (tags : List Tag) (status : HostStatus) :
    (s.withDirty x).answerTags tags status = (s.answerTags tags status).withDirty x := by
  rw [answerTags_eq, answerTags_eq]; rfl

theorem convertEntries_eq (l : List JournalEntry) (s : State) :
    l.foldl State.convertEntry s =
      (s.answerTags (l.flatMap (·.heldTags)) .unmirrored).withDirty (l.foldl State.convertEntry s).dirty := by
  induction l generalizing s with
  | nil => rfl
  | cons e l ih =>
    simp only [List.foldl_cons, List.flatMap_cons]
    rw [ih]
    have h : ∀ x, ((s.convertEntry e).answerTags (l.flatMap (·.heldTags)) .unmirrored).withDirty x =
        (s.answerTags (e.heldTags ++ l.flatMap (·.heldTags)) .unmirrored).withDirty x := by
      intro x
      unfold State.convertEntry
      rw [markDirty_eq, answerTags_withDirty, answerTags_withDirty]
      simp [State.answerTags]
    rw [h]
    rfl

theorem mem_convertEntries (l : List JournalEntry) (s : State) (g : Nat) :
    g ∈ (l.foldl State.convertEntry s).dirty ↔
      g ∈ s.dirty ∨ ∃ e ∈ l, e.localLine.granule = g ∧ s.windows[e.window].enabled = true ∧
        s.windows[e.window].localHas g = true := by
  induction l generalizing s with
  | nil => simp
  | cons e l ih =>
    have hw : (s.convertEntry e).windows = s.windows := by
      unfold State.convertEntry; rw [answerTags_eq, markDirty_eq]; rfl
    have hd : (s.convertEntry e).dirty = (s.markDirty e.window e.localLine.granule).dirty := by
      unfold State.convertEntry; rw [answerTags_eq]; rfl
    rw [List.foldl_cons, ih, hw, hd, mem_markDirty]
    grind

/-- Conversion answers the held tags UNMIRRORED and empties the journal, as discard does, and changes the dirty set besides
(R38). -/
theorem convert_eq (s : State) : s.convert = s.discard.withDirty s.convert.dirty := by
  rw [discard_eq]
  have h : s.convert = ((s.journal.entries.foldl State.convertEntry s)).withEntries [] := rfl
  have h2 : s.convert.dirty = (s.journal.entries.foldl State.convertEntry s).dirty := rfl
  rw [h2, h, convertEntries_eq]
  rfl

/-- Conversion adds the granules of the entries, each on behalf of its window (R38, R77). -/
theorem mem_convert (s : State) (g : Nat) :
    g ∈ s.convert.dirty ↔
      g ∈ s.dirty ∨ ∃ e ∈ s.journal.entries, e.localLine.granule = g ∧ s.windows[e.window].enabled = true ∧
        s.windows[e.window].localHas g = true :=
  mem_convertEntries s.journal.entries s g

theorem discard_entries (s : State) : s.discard.journal.entries = [] := rfl
theorem convert_entries (s : State) : s.convert.journal.entries = [] := rfl

/-! ### Frames of the larger operations -/

/-- Fields that no operation on the session, the role or the journal touches. -/
def KeptAside (s t : State) : Prop :=
  t.host.queue = s.host.queue ∧ t.host.resetLine = s.host.resetLine ∧ t.port = s.port ∧
    t.journal.nextSeq = s.journal.nextSeq ∧ t.journal.stallStart = s.journal.stallStart ∧
    t.link.signal = s.link.signal ∧ t.link.lane = s.link.lane ∧ t.link.test = s.link.test ∧
    t.seq.confirmedMark = s.seq.confirmedMark ∧ t.rx.applyQueue = s.rx.applyQueue ∧
    t.rx.appliedMark = s.rx.appliedMark ∧ t.role = s.role ∧ t.service.mask = s.service.mask ∧
    t.service.timers = s.service.timers ∧ t.service.override = s.service.override ∧
    t.service.response = s.service.response ∧ t.time = s.time ∧ t.pending = s.pending ∧ t.freeCount = s.freeCount ∧
    t.coldPin = s.coldPin

theorem KeptAside.refl (s : State) : KeptAside s s := by unfold KeptAside; simp

theorem KeptAside.trans {s t u : State} (h : KeptAside s t) (k : KeptAside t u) : KeptAside s u := by
  unfold KeptAside at *; grind

theorem withDirty_kept (s : State) (x : List Nat) : KeptAside s (s.withDirty x) := KeptAside.refl s

theorem suspendWhere_kept (s : State) (p : Window → Bool) (cause : SuspendCause) :
    KeptAside s (s.suspendWhere p cause) := by
  rw [suspendWhere_eq]; exact KeptAside.refl s

theorem suspendWindow_kept (s : State) (w : WinIdx) (cause : SuspendCause) : KeptAside s (s.suspendWindow w cause) := by
  rw [suspendWindow_eq]; exact KeptAside.refl s

theorem discard_kept (s : State) : KeptAside s s.discard := by
  rw [discard_eq, answerTags_eq]; exact KeptAside.refl s

theorem convert_kept (s : State) : KeptAside s s.convert := by
  rw [convert_eq]; exact discard_kept s

theorem markAll_kept (s : State) : KeptAside s s.markAll := by
  rw [markAll_eq]; exact withDirty_kept s _

theorem sweepTest_kept (s : State) (w : WinIdx) : KeptAside s (s.sweepTest w) := by
  unfold State.sweepTest; split <;> exact KeptAside.refl s

theorem offerFault_kept (s : State) (k : FaultKind) (w : Option WinIdx) (l : Option Line) (q : Option Seq)
    (e : Option Epoch) : KeptAside s (s.offerFault k w l q e) := by
  unfold State.offerFault Service.offer
  split
  · unfold KeptAside; simp [Service.raise]
  · unfold KeptAside; simp [Service.raise]

theorem sourceLoss_kept (s : State) (cause : SuspendCause) : KeptAside s (s.sourceLoss cause) :=
  ((suspendWhere_kept s _ cause).trans (convert_kept _)).trans (KeptAside.refl _)

/-- Link loss touches no queue of requests or entries, no capacity and no setting (R110). -/
theorem linkLoss_kept (s : State) (cause : SuspendCause) : KeptAside s (s.linkLoss cause) := by
  unfold State.linkLoss
  split
  · split
    · exact KeptAside.trans (t := (s.leaveLink.raise .linkDown)) (KeptAside.refl s) (sourceLoss_kept _ cause)
    all_goals exact KeptAside.refl s
  · exact KeptAside.refl s

theorem updateWindows_kept (s : State) (f : Window → Window) : KeptAside s (s.updateWindows f) := KeptAside.refl s

/-- The effects of a warm reset on the blocks change the Host Port by the discard alone, set the role to ISOLATED, and leave
the time, the queue of commands and the level of the cold reset pin (R62, R164, R181). -/
theorem warmBlocks_fields (s : State) :
    s.warmBlocks.host = s.discard.host ∧ s.warmBlocks.role = .isolated ∧ s.warmBlocks.time = s.time ∧
      s.warmBlocks.pending = s.pending ∧ s.warmBlocks.coldPin = s.coldPin := by
  have h := discard_kept s
  unfold KeptAside at h
  have hm : ∀ t : State, t.markAll.host = t.host ∧ t.markAll.role = t.role ∧ t.markAll.time = t.time ∧
      t.markAll.pending = t.pending ∧ t.markAll.coldPin = t.coldPin := fun t => by
    obtain ⟨d, hd⟩ : ∃ d, t.markAll = t.withDirty d := ⟨_, markAll_eq t⟩
    simp [hd]
  have hd : s.warmBlocks.host = s.discard.host ∧ s.warmBlocks.role = .isolated ∧
      s.warmBlocks.time = s.discard.time ∧ s.warmBlocks.pending = s.discard.pending ∧
      s.warmBlocks.coldPin = s.discard.coldPin := by
    simp [State.warmBlocks, State.dropPosition, State.updateWindows, hm]
  grind

/-- Finishing an entry touches nothing but the receiver's record and the service port's flags, list and counts (R142). -/
theorem finishEntry_eq (s : State) (e : ApplyEntry) (how : Finish) :
    s.finishEntry e how = (s.withRx (s.finishEntry e how).rx).withService (s.finishEntry e how).service := by
  cases how with
  | written => unfold State.finishEntry State.moveApplied State.countApplied; simp only; (repeat' split) <;> rfl
  | unwritten => unfold State.finishEntry State.moveApplied; simp only; split <;> rfl
  | fault kind window =>
    unfold State.finishEntry State.moveApplied State.applyFault; simp only; (repeat' split) <;> rfl

/-! ### The examination of the apply head and the grant -/

/-- A head that is on the port or WITHHELD stays, and an empty queue has none (R140). -/
theorem examine_stays {s : State}
    (h : s.rx.applyQueue = [] ∨ s.headOnPort = true ∨ Config.reportQueueSize ≤ s.rx.reportQueue.length) :
    s.examine = s := by
  unfold State.examine
  cases hq : s.rx.applyQueue with
  | nil => rfl
  | cons e rest => exact if_pos (by simpa [hq] using h)

/-- Any other head: finished for an empty mask or a target in no enabled window, the next one examined after it, and left
PRESENTED otherwise (R140, R142). -/
theorem examine_head {s : State} {e : ApplyEntry} {rest : List ApplyEntry} (hq : s.rx.applyQueue = e :: rest)
    (hp : s.headOnPort = false) (hr : s.rx.reportQueue.length < Config.reportQueueSize) :
    s.examine =
      if e.mask = 0 then (s.finishEntry e .unwritten).examine
      else if s.owner e.target.granule = none then (s.finishEntry e (.fault .range none)).examine
      else s := by
  have ht : ∀ how, (s.finishEntry e how).rx.applyQueue = rest := by
    intro how
    cases how <;> unfold State.finishEntry State.moveApplied
    · unfold State.countApplied; simp only; (repeat' split) <;> simp [hq, State.count, State.raise]
    · simp only; split <;> simp [hq]
    · unfold State.applyFault State.offerFault State.raise; simp only; (repeat' split) <;> simp [hq]
  have hn : ¬ (s.headOnPort = true ∨ Config.reportQueueSize ≤ s.rx.reportQueue.length) := by
    rintro (h | h)
    · simp [hp] at h
    · exact absurd hr (Nat.not_lt.2 h)
  conv => lhs; unfold State.examine; rw [hq]; unfold State.examineFrom; rw [if_neg hn]
  unfold State.examine
  rw [ht, ht]
  split
  · rfl
  · cases s.owner e.target.granule <;> simp

theorem examineDue_iff (s : State) :
    s.examineDue = true ↔
      ∃ e rest, s.rx.applyQueue = e :: rest ∧ s.headOnPort = false ∧
        s.rx.reportQueue.length < Config.reportQueueSize ∧ (e.mask = 0 ∨ s.owner e.target.granule = none) := by
  unfold State.examineDue
  cases s.rx.applyQueue with
  | nil => simp
  | cons e rest => simp [and_assoc]

/-- What no step of the apply engine or the arbiter touches: the pin levels, the signal, the test record, the time and the
model's own queue and count. -/
def EventAside (s t : State) : Prop :=
  t.coldPin = s.coldPin ∧ t.host.resetLine = s.host.resetLine ∧ t.link.signal = s.link.signal ∧
    t.link.test = s.link.test ∧ t.time = s.time ∧ t.pending = s.pending ∧ t.freeCount = s.freeCount ∧
    ∃ more, t.host.responses = s.host.responses ++ more

theorem EventAside.refl (s : State) : EventAside s s := by simp [EventAside]

theorem EventAside.trans {s t u : State} (h : EventAside s t) (k : EventAside t u) : EventAside s u := by
  obtain ⟨h1, h2, h3, h4, h5, h6, h7, a, ha⟩ := h
  obtain ⟨k1, k2, k3, k4, k5, k6, k7, b, hb⟩ := k
  exact ⟨k1.trans h1, k2.trans h2, k3.trans h3, k4.trans h4, k5.trans h5, k6.trans h6, k7.trans h7, a ++ b,
    by rw [hb, ha, List.append_assoc]⟩

theorem withRole_aside (s : State) (x : Role) : EventAside s (s.withRole x) := EventAside.refl s
theorem withService_aside (s : State) (x : Service) : EventAside s (s.withService x) := EventAside.refl s
theorem withDirty_aside (s : State) (x : List Nat) : EventAside s (s.withDirty x) := EventAside.refl s
theorem withPassedOver_aside (s : State) (n : Nat) : EventAside s (s.withPassedOver n) := EventAside.refl s

theorem settle_aside (s : State) : EventAside s s.settle := by
  have h := settle_same s
  have k := settleWith_responses s false
  unfold SameButSettled at h
  and_intros
  all_goals first
    | exact k
    | grind

theorem finishEntry_aside (s : State) (e : ApplyEntry) (how : Finish) : EventAside s (s.finishEntry e how) := by
  rw [finishEntry_eq]; exact EventAside.refl s

theorem examineFrom_aside (l : List ApplyEntry) (s : State) : EventAside s (State.examineFrom l s) := by
  induction l generalizing s with
  | nil => exact EventAside.refl s
  | cons e l ih =>
    unfold State.examineFrom
    repeat' split
    · exact EventAside.refl s
    · exact (finishEntry_aside s e _).trans (ih _)
    · exact EventAside.refl s
    · exact (finishEntry_aside s e _).trans (ih _)

theorem examine_aside (s : State) : EventAside s s.examine := examineFrom_aside _ s

theorem convert_aside (s : State) : EventAside s s.convert := by
  rw [convert_eq, discard_eq, answerTags_eq]
  and_intros
  all_goals first
    | rfl
    | exact ⟨_, rfl⟩

theorem linkLoss_aside (s : State) (cause : SuspendCause) : EventAside s (s.linkLoss cause) := by
  unfold State.linkLoss
  split
  · simp only
    split
    · unfold State.sourceLoss
      refine EventAside.trans (t := (s.leaveLink.raise .linkDown).suspendWhere Window.capturing cause) ?_ ?_
      · rw [suspendWhere_eq]; exact EventAside.refl s
      · exact convert_aside _
    all_goals exact EventAside.refl s
  · exact EventAside.refl s

/-- A role change touches no input level, no time and no answer given before (R155). -/
theorem changeRole_aside (s : State) (new : Role) : EventAside s (s.changeRole new) := by
  have h1 : EventAside s (s.roleLink new) := by
    have h : ∀ t : State, EventAside s t →
        EventAside s (if s.role = .source ∧ new = .isolated then t.convert else t) := by
      intro t ht
      split
      · exact ht.trans (convert_aside t)
      · exact ht
    unfold State.roleLink
    refine h _ ?_
    split
    · exact linkLoss_aside s _
    all_goals exact EventAside.refl s
  have h2 : ∀ (t : State) (old : Role), EventAside t (t.roleWindows old new) := by
    intro t old
    unfold State.roleWindows
    repeat' split
    · rw [suspendWhere_eq]; exact EventAside.refl t
    · rw [suspendWhere_eq]; exact EventAside.refl t
    · exact EventAside.refl t
  have h3 : ∀ (t : State) (old : Role), EventAside t (t.roleDirty old new) := by
    intro t old
    unfold State.roleDirty
    repeat' split
    · exact EventAside.refl t
    · rw [markAll_eq]; exact withDirty_aside t _
    · exact EventAside.refl t
  have h4 : ∀ t : State, EventAside s t → EventAside s (t.withService { t.service with override := false }).settle :=
    fun t ht => (ht.trans (withService_aside t _)).trans (settle_aside _)
  exact h4 _ (((h1.trans (withRole_aside (s.roleLink new) new)).trans (h2 _ s.role)).trans (h3 _ s.role))

/-- A role change leaves the apply queue as it is: it drains in every role (R155). -/
theorem changeRole_applyQueue (s : State) (new : Role) : (s.changeRole new).rx.applyQueue = s.rx.applyQueue := by
  have hc : ∀ t : State, t.convert.rx.applyQueue = t.rx.applyQueue := fun t => by
    have := convert_kept t; unfold KeptAside at this; grind
  have h1 : (s.roleLink new).rx.applyQueue = s.rx.applyQueue := by
    have h : ∀ t : State, t.rx.applyQueue = s.rx.applyQueue →
        (if s.role = .source ∧ new = .isolated then t.convert else t).rx.applyQueue = s.rx.applyQueue := by
      intro t ht
      split
      · rw [hc, ht]
      · exact ht
    unfold State.roleLink
    refine h _ ?_
    split
    · have := linkLoss_kept s .role; unfold KeptAside at this; grind
    all_goals rfl
  have h2 : ∀ (t : State) (old : Role), (t.roleWindows old new).rx = t.rx := by
    intro t old
    unfold State.roleWindows
    repeat' split
    · rw [suspendWhere_eq]; rfl
    · rw [suspendWhere_eq]; rfl
    · rfl
  have h3 : ∀ (t : State) (old : Role), (t.roleDirty old new).rx = t.rx := by
    intro t old
    unfold State.roleDirty
    repeat' split
    · rfl
    · rw [markAll_eq, State.withDirty_rx]
    · rfl
  have h4 : ∀ t : State, t.settle.rx.applyQueue = t.rx.applyQueue := fun t => by
    have := settle_same t; unfold SameButSettled at this; grind
  unfold State.changeRole
  simp only
  rw [h4, State.withService_rx, h3, h2, State.withRole_rx, h1]

theorem drainCheck_aside (s : State) : EventAside s s.drainCheck := by
  unfold State.drainCheck State.endDrain
  split
  · unfold State.raise
    exact (changeRole_aside s _).trans (withService_aside _ _)
  · exact EventAside.refl s

theorem examineNow_aside (s : State) : EventAside s s.examineNow := by
  unfold State.examineNow
  split
  · exact ((examine_aside s).trans (drainCheck_aside _)).trans (settle_aside _)
  · exact EventAside.refl s

theorem examineAll_aside (n : Nat) (s : State) : EventAside s (State.examineAll n s) := by
  induction n generalizing s with
  | zero => exact EventAside.refl s
  | succ n ih =>
    unfold State.examineAll
    split
    · exact (examineNow_aside s).trans (ih _)
    · exact EventAside.refl s

theorem grantTo_aside (s : State) (g : Grantee) : EventAside s (s.grantTo g) := by
  cases g with
  | host =>
    unfold State.grantTo
    simp only
    split
    · exact EventAside.refl s
    · unfold State.grantHost
      simp only
      split
      · exact EventAside.refl s
      · split
        · exact EventAside.refl s
        · exact EventAside.refl s
        · rw [markDirty_eq]; exact EventAside.refl s
        · unfold State.capture; split <;> exact EventAside.refl s
  | sweep =>
    unfold State.grantTo
    simp only
    split <;> exact EventAside.refl s
  | apply =>
    unfold State.grantTo
    simp only
    split
    · exact EventAside.refl s
    · unfold State.grantApply State.classifyApply
      repeat' split
      · exact EventAside.refl s
      · rw [markDirty_eq, suspendWindow_eq]; exact EventAside.refl s
      · rw [markDirty_eq]; exact EventAside.refl s
      · exact EventAside.refl s

theorem grantNow_aside (s : State) : EventAside s s.grantNow := by
  unfold State.grantNow
  split
  · exact EventAside.refl s
  · split
    · exact EventAside.refl s
    · exact ((grantTo_aside s _).trans (withPassedOver_aside _ _)).trans (settle_aside _)

/-- What is due at once touches no input level, no time, no test and no answer given before (R69, R140). -/
theorem prompt_aside (s : State) : EventAside s s.prompt := by
  unfold State.prompt
  split
  · exact EventAside.refl s
  · exact (examineAll_aside _ s).trans (grantNow_aside _)

end Sys2Proof.Machine
end

