-- ==== Sys2Proof/Tests/Slice0.lean ====
section
/-! SUPPORT. Small tests: ill-formed terms that the check refuses; frames, messages and the check value written out from the
spec; one or two steps' results for each command, many from the worked examples of the spec; and for each statement with
hypotheses a state and operands that meet them, clause by clause. -/

namespace Sys2Proof.Tests

set_option Elab.async false

open Sys2Proof Sys2Proof.Machine

/-! ### The check of well-formedness refuses each ill-formed term -/

/-- PROBE of epoch 0 with its check value: a good frame. -/
def goodProbe : List Byte := (Machine.Frame.probe 0).toBytes

theorem test_damaged_frame_with_good_bytes_is_ill_formed : (Instr.damagedFrame goodProbe).wellFormed = false := by
  decide +kernel

theorem test_bad_message_with_good_bytes_is_ill_formed : (Instr.badMessage [1, 0, 0, 0xFF]).wellFormed = false := by
  decide +kernel

theorem test_unknown_command_with_assigned_code_is_ill_formed :
    (Instr.unknownCommand 0 1 []).wellFormed = false ∧ (Instr.unknownCommand 0 19 []).wellFormed = false := by
  decide +kernel

theorem test_arguments_over_255_bytes_are_ill_formed :
    (Instr.getStatus 0 (List.replicate 256 0)).wellFormed = false ∧
      (Instr.unknownCommand 0 0 (List.replicate 256 0)).wellFormed = false := by decide +kernel

/-- A line of zeros. -/
def zeros : LineData := Vector.replicate 64 0

theorem test_sweep_frame_with_partial_mask_is_ill_formed :
    (Instr.receiveDataFrame
        { kind := .sweep, epoch := 1, seq := 0, window := 0, target := 0, mask := 1, poison := false
          data := zeros }).wellFormed = false := by decide +kernel

theorem test_damaged_and_bad_and_unknown_are_well_formed :
    (Instr.damagedFrame []).wellFormed = true ∧ (Instr.badMessage []).wellFormed = true ∧
      (Instr.unknownCommand 0 0 []).wellFormed = true ∧ (Instr.unknownCommand 0 20 []).wellFormed = true := by
  decide +kernel

/-! ### Bytes written out from the spec -/

/-- The published check value of the CRC with the settings of R98 over the nine bytes "123456789"; it is not in the spec. -/
theorem test_check_value : crc [0x31, 0x32, 0x33, 0x34, 0x35, 0x36, 0x37, 0x38, 0x39] = 0xFC891918 := by decide +kernel

/-- HELLO(SOURCE, 5, 300): code 00011, two zeros, qualifier 0; epoch; base sequence (R97, R98). -/
theorem test_hello_bytes : (Machine.Frame.hello (.source 5 300)).body = [0b00011000, 5, 1, 44] := by decide +kernel

/-- NAK(81, DAMAGED) in epoch 12: code 10001, two zeros, qualifier 1 (R97, R98). -/
theorem test_nak_bytes : (Machine.Frame.nak 12 81 .damaged).body = [0b10001001, 12, 0, 81] := by decide +kernel

/-- REPORT of kind RANGE: code 10010, qualifier 0; the target line as a 40-bit address (R97, R98). -/
theorem test_report_bytes :
    (Machine.Frame.report { epoch := 12, seq := 81, kind := .range, target := 0x401 }).body =
      [0b10010000, 12, 0, 81, 0, 0, 1, 0, 0x40] := by decide +kernel

/-- The mask of byte position 0 alone is the most significant bit of the first mask byte (R98). -/
theorem test_update_bytes :
    (Machine.Frame.data
        { kind := .update, epoch := 1, seq := 2, window := 3, target := 1, mask := 1, poison := true
          data := zeros }).body =
      [0b00101001, 1, 0, 2, 3, 0, 0, 0, 0, 0x40, 0x80, 0, 0, 0, 0, 0, 0, 0] ++ List.replicate 64 0 := by decide +kernel

theorem test_frames_are_read_back :
    frameCommand (Machine.Frame.hello (.sink 7)).toBytes = .receiveHello (.sink 7) ∧
      frameCommand (Machine.Frame.ack 7 65535 2).toBytes = .receiveAck 7 65535 2 ∧
      frameCommand (Machine.Frame.report { epoch := 1, seq := 2, kind := .apply, target := 0x3FFFFFFFF }).toBytes =
        .receiveReport { epoch := 1, seq := 2, kind := .apply, target := 0x3FFFFFFFF } := by decide +kernel

theorem test_a_changed_bit_damages : frameCommand (goodProbe.set 1 1) = .damagedFrame (goodProbe.set 1 1) := by
  decide +kernel

/-- GET_STATUS with echo 7: code 1, echo 7, length 0, and the byte that makes the sum 0 (R167, R170). -/
theorem test_message_is_read : messageCommand [1, 7, 0, 0xF8] = .getStatus 7 [] := by decide +kernel

theorem test_short_message_is_bad : messageCommand [1, 7, 0xF8] = .badMessage [1, 7, 0xF8] := by decide +kernel

/-! ### Helpers: small states, and a question about the state after one command -/

/-- The command answers a next state that meets `p`. -/
def after (c : Instr) (s : State) (p : State → Bool) : Bool :=
  match exec c s with
  | .next t => p t
  | .fault _ => false
  | .refused _ => false

/-- The response message of the last service command has this status and reason. -/
def answered (t : State) (status : ServiceStatus) (reason : Reason) : Bool :=
  t.service.response.any fun r => r.status == status && r.reason == reason

/-- A held MIRROR window in MIRRORING: local granules 0 and 1, remote granules 16 and 17. -/
def window0 : Window :=
  { localBase := 0, size := 2, remoteBase := 16, kind := .mirror, cls := .held, state := .mirroring, cause := .enabled }

/-- A posted MIRROR window in SWEEPING: local granule 4, remote granule 32. -/
def window1 : Window :=
  { localBase := 4, size := 1, remoteBase := 32, kind := .mirror, cls := .posted, state := .sweeping, cause := .enabled }

/-- A programmed window that is OFF: local granule 8, remote granule 40. -/
def window2 : Window :=
  { localBase := 8, size := 1, remoteBase := 40, kind := .mirror, cls := .posted, state := .off, cause := .enabled }

/-- A paused MARKER window: local granule 12, remote granule 44. -/
def window3 : Window :=
  { localBase := 12, size := 1, remoteBase := 44, kind := .marker, cls := .posted, state := .suspended, cause := .paused }

/-- An OFF window that shares local granule 1 with window 0. -/
def window5 : Window :=
  { localBase := 1, size := 1, remoteBase := 60, kind := .mirror, cls := .posted, state := .off, cause := .enabled }

/-- An OFF window of the largest size. -/
def window6 : Window :=
  { localBase := 1000000, size := 65536, remoteBase := 1000000, kind := .mirror, cls := .posted, state := .off
    cause := .enabled }

/-- The windows of the small states; window 4 is not programmed. -/
def windows : Vector Window 16 :=
  (((((State.reset.windows.set 0 window0).set 1 window1).set 2 window2).set 3 window3).set 5 window5).set 6 window6

/-- An UPDATE entry of window 0, local line 5 (target line 16 granules on), byte 0. -/
def update (seq : Seq) (sent isOpen : Bool) (heldTags : List Tag) : JournalEntry :=
  { seq := seq, kind := .update, window := 0, localLine := 5, target := 16389, mask := 1, data := zeros
    poison := false, heldTags := heldTags, sent := sent, reported := false, everSent := sent, isOpen := isOpen }

/-- A SOURCE whose link is UP in epoch 3: entry 10 SENT with held tag 1, entry 11 WAITING, a sweep of window 1 at line 5,
granule 12 dirty for the paused window, and a frame on the lane. The port is idle, so the grant of the sweep is due. -/
def idleSource : State :=
  { State.reset with
    role := .source
    windows := windows
    link :=
      { State.reset.link with
        state := .up, epoch := 3, signal := .present, lastReceipt := some 0, lane := some (.probe 3) }
    seq := { State.reset.seq with ackStart := some 0, lastSend := some 0 }
    journal := { entries := [update 10 true false [1], update 11 false false []], nextSeq := 12, stallStart := none }
    dirty := [4, 12]
    sweep := { position := some { window := 1, granule := 4, nextLine := 5 }, inFlight := none }
    host := { State.reset.host with held := [{ tag := 1, seq := 10, start := 0 }], tags := [1] } }

/-- `idleSource` after the grant: the sweep read of line 5 of granule 4 is on the port. -/
def source : State :=
  { idleSource with
    sweep := { idleSource.sweep with inFlight := some { window := 1, granule := 4, line := 5, current := true } }
    port := { op := some { line := 4101, access := .read, owner := .sweep 1 false }, passedOver := 0 } }

/-- `idleSource` with the write of tag 2 to line 5 on the port, captured into the open entry 11. -/
def capturing : State :=
  { idleSource with
    journal := { idleSource.journal with entries := [update 10 true false [1], update 11 false true []] }
    host := { idleSource.host with tags := [1, 2] }
    port :=
      { op :=
          some
            { line := 5, access := .write 1 zeros false, owner := .host (some 2) (.capture .held 11) }
        passedOver := 0 } }

/-- An apply entry to line 5, byte 0. -/
def applyEntry (seq : Seq) (kind : EntryKind) (mask : Mask) (target : Line) : ApplyEntry :=
  { epoch := 12, seq := seq, kind := kind, window := 5, target := target, mask := mask, data := zeros
    poison := false }

/-- A SINK whose link is UP in epoch 12, as in the example of 08, section 8.6, with an ACK on the lane: window 0 is
enabled, the rest are OFF, and entry 80 waits. The port is idle, so the grant of its write is due. -/
def idleSink : State :=
  { State.reset with
    role := .sink
    windows := State.reset.windows.set 0 { window0 with state := .suspended, cause := .role }
    link :=
      { State.reset.link with
        state := .up, epoch := 12, signal := .present, lastReceipt := some 0, lane := some (.ack 12 79 0) }
    rx := { State.reset.rx with expected := 81, lastApplied := 79, applyQueue := [applyEntry 80 .update 1 5] } }

/-- `idleSink` after the grant: the write of entry 80 is on the port. -/
def sink : State :=
  { idleSink with
    port :=
      { op :=
          some
            { line := 5, access := .write 1 zeros false, owner := .apply (applyEntry 80 .update 1 5) (some 0) false }
        passedOver := 0 } }

/-- `s` with nothing on the lane, without what would follow at once. -/
def freeLane (s : State) : State := s.withLink { s.link with lane := none }

/-- `s` at another time. -/
def atTime (s : State) (t : Time) : State := s.withTime t

/-! ### Host port -/

theorem test_read_is_accepted :
    after (.hostRequest { tag := 4, line := 5, op := .read }) State.reset
      (fun t => t.host.tags == [4] && t.host.queue == [{ tag := 4, line := 5, op := .read }]) = true := by decide +kernel

theorem test_tag_in_use_is_discarded :
    after (.hostRequest { tag := 1, line := 5, op := .read }) source
      (fun t => t.host == source.host &&
        t.service.faults ==
          [{ kind := .hostTag, time := 0, window := some 0, line := some 5, seq := none, epoch := none }]) = true := by
  decide +kernel

theorem test_host_port_reset_drops_the_tags :
    after .hostPortReset capturing
      (fun t => t.host.tags == [] && t.host.held == [] && t.host.responses == [] &&
        (t.port.op.map Operation.owner) == some (.host none (.capture .held 11)) &&
        t.journal.entries.all fun e => e.heldTags == []) = true := by decide +kernel

theorem test_release_lets_requests_in :
    after .hostPortResetRelease { State.reset with host := { State.reset.host with resetLine := true } }
      (fun t => !t.host.resetLine) = true := by decide +kernel

/-- A journal of 512 entries with a CAPTURE write at the head, stalled since time 0. -/
def stalled : State :=
  { source with
    journal := { entries := List.replicate 512 (update 10 true false []), nextSeq := 11, stallStart := some 0 }
    host := { State.reset.host with queue := [{ tag := 2, line := 6, op := .write 1 zeros false }], tags := [2] }
    time := 20 }

theorem test_stall_expires_at_tSTALL :
    after .stallExpiry stalled
      (fun t => (t.windows[0]).cause == .overflow && (t.windows[1]).state == .suspended && t.sweep.position == none &&
        t.journal.stallStart == none && t.service.stats.overflowSuspensions == 1 && t.service.isPending .stallOverflow) =
      true := by decide +kernel

theorem test_stall_does_not_expire_before :
    after .stallExpiry (atTime stalled 19)
      (fun t => t == atTime stalled 19) = true := by decide +kernel

theorem test_held_record_expires_at_tHELD :
    after (.holdExpiry 1) (atTime source 500)
      (fun t => t.host.held == [] && t.host.tags == [] &&
        t.host.responses == [{ tag := 1, status := .unmirrored, data := none }] &&
        (t.journal.entries.map JournalEntry.heldTags) == [[], []] && t.service.isPending .holdExpired) = true := by
  decide +kernel

/-! ### Memory port -/

/-- Steps 1 to 3 of the example of 02, section 2.10: the second write merges into the tail. -/
theorem test_granted_write_merges :
    after .portGrant
      { idleSource with
        host := { source.host with queue := [{ tag := 3, line := 5, op := .write 0xFFF0 zeros false }], tags := [1, 3] } }
      (fun t => t.host.queue == [] && (t.journal.entries.map JournalEntry.mask) == [1, 0xFFF1] &&
        (t.journal.entries.map JournalEntry.isOpen) == [false, true] && t.journal.nextSeq == 12 &&
        (t.port.op.map Operation.owner) == some (.host (some 3) (.capture .held 11)) && t.port.passedOver == 1) =
      true := by decide +kernel

/-- With no host request the sweep engine is granted its next line: granule 4, line 5. -/
theorem test_sweep_is_granted :
    after .portGrant idleSource
      (fun t => t == source && (t.port.op.map Operation.line) == some 4101 &&
        t.sweep.inFlight == some { window := 1, granule := 4, line := 5, current := true }) = true := by decide +kernel

/-- Step 3 of the example of 09, section 9.7, before its discard: a held write completing OK waits with its entry. -/
theorem test_held_write_waits :
    after (.memoryCompletion (.ok zeros false)) capturing
      (fun t => t.host.responses == [] && t.port.op == none &&
        t.host.held == [{ tag := 1, seq := 10, start := 0 }, { tag := 2, seq := 11, start := 0 }] &&
        (t.journal.entries.map JournalEntry.heldTags) == [[1], [2]]) = true := by decide +kernel

/-- Step 5 of the example of 08, section 8.6: the write of entry 80 completes, last-applied moves and ack pending is set. -/
theorem test_apply_write_completes :
    after (.memoryCompletion (.ok zeros false)) sink
      (fun t => t.port.op == none && t.rx.applyQueue == [] && t.rx.lastApplied == 80 && t.rx.ackPending &&
        t.service.stats.entriesApplied == 1) = true := by decide +kernel

/-! ### Apply engine -/

/-- Step 7 of the example of 08, section 8.6: a target in no enabled window is finished with a RANGE fault and a REPORT. -/
theorem test_range_fault :
    after .applyHeadExamine
      (idleSink.withRx { sink.rx with applyQueue := [applyEntry 81 .update 1 99999], expected := 82, lastApplied := 80 })
      (fun t => t.rx.applyQueue == [] && t.rx.lastApplied == 81 && t.rx.applyFaults == 1 && t.rx.ackPending &&
        t.rx.reportQueue == [{ epoch := 12, seq := 81, kind := .range, target := 99999 }] &&
        t.service.isPending .applyFault &&
        t.service.faults ==
          [{ kind := .range, time := 0, window := none, line := some 99999, seq := some 81, epoch := some 12 }]) =
      true := by decide +kernel

theorem test_presented_head_stays : after .applyHeadExamine idleSink (fun t => t == idleSink) = true := by decide +kernel

/-- The completion of a write examines the heads after it in the same step: an empty mask and a target in no enabled window
are finished, and the entry after them is PRESENTED (R142 step 1). -/
theorem test_completion_examines_the_next_heads :
    after (.memoryCompletion (.ok zeros false))
      (sink.withRx
        { sink.rx with
          applyQueue :=
            [applyEntry 80 .update 1 5, applyEntry 81 .update 0 5, applyEntry 82 .update 1 99999,
              applyEntry 83 .update 1 6]
          expected := 84 })
      (fun t => t.rx.applyQueue == [applyEntry 83 .update 1 6] && t.rx.lastApplied == 82 && t.rx.applyFaults == 1 &&
        t.rx.reportQueue == [{ epoch := 12, seq := 82, kind := .range, target := 99999 }] && t.applyCandidate &&
        t.service.stats.entriesApplied == 1) = true := by decide +kernel

theorem test_drain_ends :
    after .drainEnd { State.reset with role := .draining, windows := State.reset.windows.set 0 { window0 with state := .suspended } }
      (fun t => t.role == .source && t.dirty == [0, 1] && t.service.isPending .roleDone) = true := by decide +kernel

/-! ### Timers -/

theorem test_ack_timer_rewinds_to_the_head :
    after .ackTimerExpiry (atTime source 50)
      (fun t => (t.journal.entries.map JournalEntry.sent) == [false, false] &&
        (t.journal.entries.map JournalEntry.everSent) == [true, false] && t.seq.rounds == 1 && t.seq.ackStart == none &&
        t.service.stats.rewinds == 1) = true := by decide +kernel

/-- Rounds exhausted: fault ROUNDS and link loss; the journal is converted, and the SOURCE hails with its next epoch. -/
theorem test_rounds_end_the_session :
    after .ackTimerExpiry ((atTime source 50).withSeq { source.seq with rounds := 1 })
      (fun t => t.link.state == .hail && t.link.epoch == 4 && t.journal.entries == [] && t.dirty == [0, 4, 12] &&
        (t.service.faults.map FaultRecord.seq) == [some 10] && (t.windows[0]).cause == .link) = true := by decide +kernel

/-- `source` with everything SENT and nothing on the lane. -/
def drained : State := freeLane { source with journal := { source.journal with entries := [update 10 true false [1]], nextSeq := 11 } }

theorem test_probe_after_idle :
    after .probeIdleExpiry (atTime drained 200) (fun t => t.link.lane == some (.probe 3) && t.seq.lastSend == some 200) =
      true := by decide +kernel

theorem test_silence_is_link_loss :
    after .silenceExpiry (atTime sink 1000)
      (fun t => t.link.state == .hail && t.link.epoch == 12 && t.service.isPending .linkDown) = true := by decide +kernel

/-- A SOURCE in HAIL, its HELLO sent at time 0. -/
def hailing : State :=
  { State.reset with
    role := .source
    link := { State.reset.link with state := .hail, epoch := 5, signal := .present, lastHello := some 0 }
    journal := { State.reset.journal with nextSeq := 300 } }

theorem test_hello_again_after_tHAIL :
    after .helloRepeat (atTime hailing 100)
      (fun t => t.link.lane == some (.hello (.source 5 300)) && t.link.lastHello == some 100) = true := by decide +kernel

/-! ### Link -/

/-- Step 4 of the example of 06, section 6.9, by the signal: the epoch advances and HELLO(SOURCE, 1, 0) goes out. -/
theorem test_signal_starts_hail :
    after (.laneSignalChange .present) { State.reset with role := .source }
      (fun t => t.link.state == .hail && t.link.epoch == 1 && t.link.lane == some (.hello (.source 1 0))) = true := by
  decide +kernel

theorem test_signal_lost_in_up :
    after (.laneSignalChange .absent) sink
      (fun t => t.link.state == .down && t.rx.applyQueue.length == 1 && t.service.isPending .linkDown) = true := by
  decide +kernel

/-- Step 2 of the example of 08, section 8.6. -/
theorem test_damaged_frame_asks_for_a_nak :
    after (.damagedFrame []) sink
      (fun t => t.rx.nakSlot == some .damaged && t.rx.nakOutstanding && t.service.stats.damagedFrames == 1) = true := by
  decide +kernel

/-- Step 9 of the example of 06, section 6.9. -/
theorem test_hello_opens_the_session :
    after (.receiveHello (.sink 5)) hailing
      (fun t => t.link.state == .up && t.link.epoch == 5 && t.seq.rounds == 0 && t.seq.lastSend == some 0) = true := by
  decide +kernel

/-- Step 6 of the example of 06, section 6.10: HELLO(SOURCE) in UP is link loss and adoption again, in the same epoch. -/
theorem test_hello_in_up_adopts_again :
    after (.receiveHello (.source 13 300)) sink
      (fun t => t.link.state == .up && t.link.epoch == 13 && t.rx.expected == 300 && t.rx.lastApplied == 299 &&
        t.rx.replyOwed && t.rx.applyQueue.length == 1 && t.service.isPending .linkDown && t.service.isPending .linkUp) =
      true := by decide +kernel

theorem test_test_frame_only_restarts_the_silence :
    after (.receiveTestFrame 0 zeros) (atTime sink 7)
      (fun t => t == (atTime sink 7).withLink { sink.link with lastReceipt := some 7 }) = true := by decide +kernel

theorem test_frame_end_sends_the_cursor :
    after .frameEnd source
      (fun t => t.link.lane == some (.data ((update 11 false false []).frame 3)) &&
        (t.journal.entries.map JournalEntry.sent) == [true, true]) = true := by decide +kernel

/-- Step 3 of the example of 08, section 8.6: the NAK goes first. -/
theorem test_frame_end_sends_the_nak :
    after .frameEnd (sink.withRx { sink.rx with nakSlot := some .damaged, nakOutstanding := true, ackPending := true })
      (fun t => t.link.lane == some (.nak 12 81 .damaged) && t.rx.nakSlot == none && t.rx.nakOutstanding && t.rx.ackPending) =
      true := by decide +kernel

/-- A loopback test of two frames with the first in the loop. -/
def testing : State :=
  { State.reset with
    link :=
      { State.reset.link with
        test := { TestRecord.reset with running := true, requested := 2, sent := 1, inLoop := some 0 } } }

theorem test_returned_frame_is_counted :
    after (.testFrameReturn (Machine.Frame.test 0 (testPayload 0)).toBytes) testing
      (fun t => t.link.test == { testing.link.test with good := 1, sent := 2, inLoop := some 1 }) = true := by
  decide +kernel

theorem test_last_returned_frame_completes_the_test :
    after (.testFrameReturn []) (testing.withLink { testing.link with test := { testing.link.test with sent := 2, good := 1, inLoop := some 1 } })
      (fun t => t.link.test.damaged == 1 && !t.link.test.running && t.link.test.outcome == .complete &&
        t.service.isPending .testDone) = true := by decide +kernel

/-- In UP a HELLO(SINK) of the session's epoch is link loss and leaves the SOURCE hailing; one of exactly the advanced
epoch takes it UP again (R106, log 32). -/
theorem test_hello_of_the_advanced_epoch_in_up :
    (after (.receiveHello (.sink 3)) source (fun t => t.link.state == .hail && t.link.epoch == 4) &&
      after (.receiveHello (.sink 4)) source
        (fun t => t.link.state == .up && t.link.epoch == 4 && t.journal.entries == [])) = true := by decide +kernel

/-! ### Frames for the SINK and for the SOURCE -/

/-- The UPDATE of sequence `q` in epoch 12. -/
def updateFrame (q : Seq) : DataFrame :=
  { kind := .update, epoch := 12, seq := q, window := 5, target := 5, mask := 1, poison := false, data := zeros }

theorem test_expected_frame_is_accepted :
    after (.receiveDataFrame (updateFrame 81)) sink
      (fun t => t.rx.expected == 82 && t.rx.applyQueue == sink.rx.applyQueue ++ [applyEntry 81 .update 1 5]) = true := by
  decide +kernel

/-- At an idle port a data frame and then a host request wait in the queue. The request finds the apply head granted, and
waits for the next completion (R69). -/
theorem test_apply_head_is_granted_before_the_next_command :
    after (.receiveDataFrame (updateFrame 81)) (idleSink.withRx { idleSink.rx with applyQueue := [] })
      (fun t => t.port.op == none && t.rx.applyQueue == [applyEntry 81 .update 1 5] &&
        after (.hostRequest { tag := 4, line := 6, op := .read }) t
          (fun u => (u.port.op.map Operation.owner) == some (.apply (applyEntry 81 .update 1 5) (some 0) false) &&
            u.host.queue == [{ tag := 4, line := 6, op := .read }] && u.port.passedOver == 0)) = true := by
  decide +kernel

/-- Step 12 of the example of 08, section 8.6: a duplicate sets ack pending. -/
theorem test_duplicate_is_acknowledged :
    after (.receiveDataFrame (updateFrame 80)) sink (fun t => t.rx == { sink.rx with ackPending := true }) = true := by
  decide +kernel

theorem test_probe_sets_ack_pending :
    after (.receiveProbe 12) sink (fun t => t.rx == { sink.rx with ackPending := true }) = true := by decide +kernel

/-- Step 14 of the example of 02, section 2.10, with a held tag: the entry leaves and its tag is answered OKAY. -/
theorem test_ack_removes_the_head :
    after (.receiveAck 3 10 0) source
      (fun t => (t.journal.entries.map JournalEntry.seq) == [11] && t.host.held == [] &&
        t.host.responses == [{ tag := 1, status := .okay, data := none }] && t.service.stats.entriesAcked == 1 &&
        t.seq.ackStart == none) = true := by decide +kernel

theorem test_bogus_ack_ends_the_session :
    after (.receiveAck 3 11 0) source
      (fun t => t.link.state == .hail && (t.service.faults.map FaultRecord.kind) == [.bogusAck]) = true := by
  decide +kernel

theorem test_nak_rewinds :
    after (.receiveNak 3 10 .damaged) source
      (fun t => (t.journal.entries.map JournalEntry.sent) == [false, false] && t.seq.rounds == 1) = true := by
  decide +kernel

theorem test_nak_at_send_is_ignored :
    after (.receiveNak 3 11 .gap) source (fun t => t == source) = true := by decide +kernel

theorem test_report_suspends_the_window :
    after (.receiveReport { epoch := 3, seq := 10, kind := .range, target := 16389 }) source
      (fun t => (t.windows[0]).state == .suspended && (t.windows[0]).cause == .partner && t.dirty == [0, 4, 12] &&
        (t.journal.entries.map JournalEntry.reported) == [true, false] && t.seq.processed == 1 &&
        (t.windows[1]).state == .sweeping && t.service.isPending .partnerFault) = true := by decide +kernel

/-! ### Service port -/

theorem test_bad_message_is_answered :
    after (.badMessage [9, 7, 0]) source (fun t => t == source.reply 7 9 .badMessage .noReason []) = true := by
  decide +kernel

theorem test_unknown_command_is_answered :
    after (.unknownCommand 7 20 [1]) source (fun t => t == source.reply 7 20 .unknown .noReason []) = true := by
  decide +kernel

/-- The status record of `source`, byte by byte (R171): role, link, epoch, journal, SENT, apply queue, dirty, position,
override, overrun, events, test record, time. -/
theorem test_status_record :
    after (.getStatus 7 []) source
      (fun t => (t.service.response.map ServiceResponse.results) ==
        some
          ([1, 2, 3, 0, 2, 1, 0, 0, 0, 0, 2, 1, 1, 0, 0, 4, 0, 5, 0, 0, 0, 0, 0, 0, 0, 0, 0, 0, 0, 0] ++
            [0, 0, 0, 0])) = true := by decide +kernel

theorem test_set_window_writes :
    after (.setWindow 7 [4, 0, 0, 0, 20, 0, 0, 0, 3, 0, 0, 0, 30, 1, 1]) source
      (fun t => t.windows[4] ==
        { localBase := 20, size := 3, remoteBase := 30, kind := .marker, cls := .held, state := .off, cause := .enabled }) =
      true := by decide +kernel

theorem test_set_window_out_of_bounds :
    after (.setWindow 7 [4, 0, 255, 255, 255, 0, 0, 0, 2, 0, 0, 0, 30, 0, 0]) source
      (fun t => t == source.reply 7 2 .refused .bounds []) = true := by decide +kernel

/-- Window 3 of `source`: base 12, size 1, remote base 44, MARKER, POSTED, enabled, SUSPENDED, PAUSED, one dirty granule
(R8, R170). -/
theorem test_window_record :
    after (.getWindow 7 [3]) source
      (fun t => (t.service.response.map ServiceResponse.results) ==
        some [0, 0, 0, 12, 0, 0, 0, 1, 0, 0, 0, 44, 1, 0, 1, 1, 5, 0, 0, 0, 1]) = true := by decide +kernel

theorem test_enable_window :
    after (.enableWindow 7 [2]) source
      (fun t => (t.windows[2]).state == .suspended && t.dirty == [4, 8, 12] && answered t .done .noReason) = true := by
  decide +kernel

theorem test_enable_window_overlap :
    after (.enableWindow 7 [5]) source (fun t => t == source.reply 7 4 .refused .overlap []) = true := by decide +kernel

theorem test_disable_window :
    after (.disableWindow 7 [1]) source
      (fun t => (t.windows[1]).state == .off && t.dirty == [12] && t.sweep.position == none) = true := by decide +kernel

theorem test_start_sweep :
    after (.startSweep 7 [3, 0]) source
      (fun t => (t.windows[3]).state == .sweeping && t.sweep.position == source.sweep.position &&
        answered t .done .noReason) = true := by decide +kernel

theorem test_start_sweep_of_a_clean_window :
    after (.startSweep 7 [3, 0]) (source.withDirty [4])
      (fun t => (t.windows[3]).state == .mirroring && t.service.isPending .sweepDone) = true := by decide +kernel

theorem test_pause_window :
    after (.pauseWindow 7 [1]) source
      (fun t => (t.windows[1]).state == .suspended && (t.windows[1]).cause == .paused && t.sweep.position == none &&
        t.dirty == [4, 12] && t.service.isPending .windowSuspended) = true := by decide +kernel

theorem test_assume_source_from_sink_drains :
    after (.assumeSource 7 []) sink
      (fun t => t.role == .draining && t.link.state == .down && answered t .accepted .noReason) = true := by decide +kernel

/-- Step 1 of the example of 09, section 9.7. -/
theorem test_assume_sink_is_refused_pending :
    after (.assumeSink 7 [0]) source (fun t => t == source.reply 7 9 .refused .pending []) = true := by decide +kernel

/-- Step 2 of the example of 09, section 9.7: tags of the journal UNMIRRORED, the waiting write FENCED, HAIL in the same
epoch. -/
theorem test_assume_sink_by_force :
    after (.assumeSink 7 [1])
      { capturing with
        host := { capturing.host with queue := [{ tag := 9, line := 7, op := .write 1 zeros false }], tags := [1, 2, 9] } }
      (fun t => t.role == .sink && t.link.state == .hail && t.link.epoch == 3 && t.journal.entries == [] &&
        t.host.held == [] && t.host.tags == [2] && t.dirty == [] &&
        t.host.responses ==
          [{ tag := 1, status := .unmirrored, data := none }, { tag := 9, status := .fenced, data := none }] &&
        (t.windows[0]).cause == .role && t.service.isPending .linkDown && t.service.isPending .windowSuspended) =
      true := by decide +kernel

theorem test_isolate_converts :
    after (.isolate 7 []) source
      (fun t => t.role == .isolated && t.link.state == .down && t.journal.entries == [] && t.dirty == [0, 4, 12] &&
        t.host.responses == [{ tag := 1, status := .unmirrored, data := none }]) = true := by decide +kernel

theorem test_set_timers_order :
    after (.setTimers 7 ({ Timers.reset with tQuiet := 449 } : Timers).bytes) source
      (fun t => t == source.reply 7 11 .refused .order Timers.reset.bytes) = true := by decide +kernel

/-- tACK of 40 at 45 microseconds: the acknowledgment timer expires in the step of the command. -/
theorem test_set_timers_expires_at_once :
    after (.setTimers 7 ({ Timers.reset with tAck := 40 } : Timers).bytes) (atTime source 45)
      (fun t => t.service.timers.tAck == 40 && t.seq.rounds == 1 && answered t .done .noReason) = true := by decide +kernel

theorem test_set_mask :
    after (.setMask 7 [0xFF, 0xFE]) source
      (fun t => t.service.mask == 0x3FFE && (t.service.response.map ServiceResponse.results) == some [0x3F, 0xFE]) =
      true := by decide +kernel

theorem test_read_events :
    after (.readEvents 7 []) (source.raise .faultLogged)
      (fun t => t.service.events == 0 && (t.service.response.map ServiceResponse.results) == some [0x20, 0]) = true := by
  decide +kernel

theorem test_read_fault :
    after (.readFault 7 []) ((atTime source 258).offerFault .bogusAck none none (some 5) (some 3))
      (fun t => t.service.faults == [] && (t.service.response.map ServiceResponse.results) ==
        some [6, 12, 0, 0, 1, 2, 0, 0, 0, 0, 0, 0, 0, 5, 3, 0, 0, 0]) = true := by decide +kernel

theorem test_read_fault_on_an_empty_list :
    after (.readFault 7 []) source
      (fun t => t == source.reply 7 14 .refused .empty (List.replicate 18 0)) = true := by decide +kernel

theorem test_marks_are_zero_after_reset :
    after (.getMarks 7 []) State.reset
      (fun t => (t.service.response.map ServiceResponse.results) == some (List.replicate 39 0)) = true := by decide +kernel

/-- A FENCE write cannot wait at the head, so turning the override off answers what it let wait. -/
theorem test_override_off_fences_the_head :
    after (.setOverride 7 [0])
      { sink with
        service := { sink.service with override := true }
        host := { sink.host with queue := [{ tag := 2, line := 5, op := .write 1 zeros false }], tags := [2] } }
      (fun t => t.host.responses == [{ tag := 2, status := .fenced, data := none }] && t.host.tags == []) = true := by
  decide +kernel

theorem test_statistics :
    after (.getStats 7 []) (source.count fun t => { t with rewinds := 256 })
      (fun t => (t.service.response.map ServiceResponse.results) ==
        some [0, 0, 0, 0, 0, 0, 1, 0, 0, 0, 0, 0, 0, 0, 0, 0, 0, 0, 0, 0, 0, 0, 0, 0]) = true := by decide +kernel

theorem test_link_test_starts :
    after (.linkTest 7 [0, 2]) State.reset (fun t => t.link.test == testing.link.test && answered t .accepted .noReason) =
      true := by decide +kernel

theorem test_restart :
    after (.restart 7 []) capturing
      (fun t => t.role == .isolated && t.link.state == .down && t.link.epoch == 3 && t.journal.entries == [] &&
        t.journal.nextSeq == 12 && t.dirty == [0, 1, 4, 12] && t.service.events == 0 && t.port.op == capturing.port.op &&
        (t.windows[0]).cause == .restart) = true := by decide +kernel

/-- `s` with the cold reset pin asserted. -/
def held (s : State) : State := s.cold true

theorem test_cold_reset_is_asserted :
    after (.coldReset .asserted) capturing
      (fun t => t == (State.reset.withLink { State.reset.link with signal := .present }).withColdPin true &&
        t.laneOutput == .undriven && !t.attention) = true := by decide +kernel

theorem test_cold_reset_is_released :
    after (.coldReset (.released .absent)) (held capturing) (fun t => t == State.reset && t.laneOutput == .idleFill) =
      true := by decide +kernel

theorem test_held_pin_loses_a_message : exec (.getStatus 7 []) (held source) = .next (held source) := rfl

theorem test_held_pin_keeps_the_level_of_the_reset_line :
    after .hostPortReset (held source) (fun t => t.host.resetLine && t.host.queue == [] && t.coldPin) = true := by
  decide +kernel

theorem test_no_time_passes_while_the_pin_is_held : step (held source) = .next (held source) := rfl

/-! ### States and operands that meet the hypotheses of the statements, clause by clause -/

/-- A state with the pin released is ready with a host or sweep operation on the port and no apply entry, and with the
write of the apply head on the port: the premise `Ready` for the states of the witnesses below, whatever their other
fields. -/
theorem ready_of_busy_port {s : State} (hc : s.coldPin = false) (hp : s.port.op.isSome = true)
    (hq : s.rx.applyQueue = [] ∨ s.headOnPort = true) : Ready s := by
  refine ⟨hc, ?_, ?_⟩
  · unfold State.examineDue
    rcases hq with h | h
    · rw [h]
    · cases s.rx.applyQueue <;> simp [h]
  · unfold State.grantDue
    cases h : s.port.op <;> simp_all

theorem witness_ready :
    Ready State.reset ∧ Ready source ∧ Ready capturing ∧ Ready sink ∧ Ready testing ∧ Ready hailing ∧ Ready drained ∧
      Ready stalled := by
  unfold Ready; decide +kernel

theorem witness_StepRunsTheFrontCommand :
    (State.reset.withPending [.portGrant]).pending = .portGrant :: ([] : List Instr) := rfl

/-- `State.reset` with one window programmed, the others as reset leaves them. -/
def lone (w : WinIdx) (x : Window) : State := { State.reset with windows := State.reset.windows.set w x }

theorem witness_StepsNeverStop :
    (State.reset.pending = [] ∧ State.reset.dueSteps = []) ∧
      (idleSink.pending = [] ∧ idleSink.dueSteps = [.portGrant] ∧ idleSink.coldPin = false ∧
        idleSink.examineDue = false ∧ idleSink.grantDue = true) ∧
      ((idleSink.disableWindow 0).examineDue = true ∧ (idleSink.disableWindow 0).dueSteps = [.applyHeadExamine]) ∧
      ((atTime source 1000).pending = [] ∧ 2 ≤ (atTime source 1000).dueSteps.length) := by decide +kernel

/-- States with no examination and no grant due, and the steps due in each. -/
theorem witness_timers_are_due_steps :
    ((atTime source 49).examineDue = false ∧ (atTime source 49).grantDue = false ∧ (atTime source 49).coldPin = false ∧
      (atTime source 49).dueSteps = []) ∧
      (atTime source 50).dueSteps = [.ackTimerExpiry] ∧
      (atTime source 1000).dueSteps = [.holdExpiry 1, .ackTimerExpiry, .silenceExpiry] ∧
      (atTime drained 200).dueSteps = [.ackTimerExpiry, .probeIdleExpiry] ∧
      stalled.dueSteps = [.stallExpiry] ∧ (atTime hailing 99).dueSteps = [] ∧
      (atTime hailing 100).dueSteps = [.helloRepeat] ∧ (State.reset.withRole .draining).dueSteps = [.drainEnd] := by
  decide +kernel

theorem witness_FramesAreDamagedByCodeLengthOrCrc :
    FrameKind.ofCode ((0b11000000 : Byte).toNat / 8) = none ∧ FrameKind.ofCode ((0b11111111 : Byte).toNat / 8) = none := by
  decide

theorem witness_FrameRoundTrip :
    ∀ d, Machine.Frame.data
        { kind := .sweep, epoch := 255, seq := 65535, window := 15, target := 0x3FFFFFFFF, mask := fullMask, poison := true
          data := zeros } = .data d → d.kind = .sweep → d.mask = fullMask := by
  intro d h _
  cases h
  rfl

theorem witness_ReceivedBytesAreReadAsCommands :
    (List.replicate 255 (0 : Byte)).length ≤ 255 ∧ badMessageBytes [1, 7, 0, 0xF9] = true ∧
      badMessageBytes [1, 7, 1, 0xF7] = true ∧ badMessageBytes [1, 7, 0xF8] = true ∧ frameDamaged [0] = true ∧
      (([20, 7, 0, 0xE5] : List Byte).map BitVec.toNat).sum % 256 = 0 := by decide +kernel

theorem witness_FaultyMessagesAreOnlyAnswered :
    ([0] : List Byte).length ≠ 0 ∧ ([] : List Byte).length ≠ 1 ∧ ([0] : List Byte).length ≠ 2 ∧
      (List.replicate 14 (0 : Byte)).length ≠ 15 ∧ (List.replicate 22 (0 : Byte)).length ≠ 21 ∧
      ([] : List Byte).length < 2 ∧ ([9] : List Byte).length < 2 := by decide +kernel

/-- A mark record of its own. -/
def mark : MarkRecord := { MarkRecord.reset with valid := true, window := 5, seq := 82, epoch := 12 }

theorem witness_StatusMarksAndStatsAreReturned :
    State.reset.seq.confirmedMark.valid = false ∧ State.reset.rx.appliedMark.valid = false ∧
      (State.reset.withSeq { State.reset.seq with confirmedMark := mark }).seq.confirmedMark.valid = true ∧
      (State.reset.withRx { State.reset.rx with appliedMark := mark }).rx.appliedMark.valid = true := by decide +kernel

theorem witness_GetWindowReturnsTheRecord : 15 < (16 : Byte).toNat := by decide

/-- `State.reset` with `n` fault records. -/
def faulty (n : Nat) : State :=
  State.reset.withService
    { State.reset.service with
      faults :=
        List.replicate n { kind := .bogusAck, time := 0, window := none, line := none, seq := some 5, epoch := some 3 }
      overrun := true }

theorem witness_FaultListKeepsAndReturnsRecords :
    (faulty 7).service.faults.length < 8 ∧ 8 ≤ (faulty 8).service.faults.length ∧
      (∃ r rest, (faulty 8).service.faults = r :: rest ∧ rest.length < 8) ∧ State.reset.service.faults = [] :=
  ⟨by decide, by decide, ⟨_, _, rfl, by decide⟩, rfl⟩

theorem witness_SetTimersReplacesAllOrNothing :
    ((¬ (2 ≤ (1 : Nat)) ∧ ¬ ((1000 : Nat) + 1 ≤ 1000)) ∧
      (({ Timers.reset with tQuiet := 449 } : Timers).tQuiet < 2 * Timers.reset.tProbe + Timers.reset.tAck ∧
        (50 ≤ 449 ∧ 449 ≤ 50000)) ∧
      2 * Timers.reset.tProbe + Timers.reset.tAck ≤ ({ Timers.reset with tQuiet := 450 } : Timers).tQuiet ∧
      Timers.reset = State.reset.service.timers ∧ { Timers.reset with tAck := 40 } ≠ State.reset.service.timers ∧
      ((atTime source 45).withTimers { Timers.reset with tAck := 40 }).timerDue .ack = true) ∧
      (∀ n, (State.reset.withTimers { Timers.reset with tAck := 40 }).timerDue n = false) ∧
      ∀ m, ((atTime source 45).withTimers { Timers.reset with tAck := 40 }).timerDue m = true → m = .ack := by
  refine ⟨by decide +kernel, fun n => ?_, fun m => ?_⟩
  · cases n <;> decide +kernel
  · cases m <;> decide +kernel

theorem witness_no_timer_is_due_at_reset (n : TimerName) : State.reset.timerDue n = false := by cases n <;> decide +kernel

theorem witness_TimersAreDueAndExpire :
    (∀ n, State.reset.timerDue n = false) ∧ (atTime source 50).timerDue .ack = true ∧
      (atTime source 49).timerDue .ack = false ∧ (atTime drained 200).timerDue .probe = true ∧
      (atTime drained 199).timerDue .probe = false ∧ (atTime source 1000).timerDue .quiet = true ∧
      (atTime source 999).timerDue .quiet = false ∧
      (stalled.timerDue .stall = true ∧ stalled.host.queue ≠ [] ∧ stalled.classify 6 = .capture 0) ∧
      (atTime stalled 19).timerDue .stall = false ∧ (atTime source 500).timerDue .held = true ∧
      (atTime source 499).timerDue .held = false :=
  ⟨witness_no_timer_is_due_at_reset, by decide +kernel⟩

theorem witness_SetOverrideActsAtOnce :
    1 < (2 : Byte).toNat ∧ false = State.reset.service.override ∧ true ≠ State.reset.service.override := by decide

theorem witness_SetWindowChecksThenWrites :
    (15 < 16 ∧ 16 < 256) ∧ (source.windows[(0 : WinIdx)]).state ≠ .off ∧ (source.windows[(4 : WinIdx)]).state = .off ∧
      (0 < 2 ^ 32 ∧ 65536 < 65537 ∧ 65537 < 2 ^ 32 ∧ 1 < 2 ∧ 2 < 256) ∧
      (16777215 < 16777216 ∧ 16777216 < 2 ^ 32 ∧ 16777215 < 16777215 + 2 - 1) ∧
      (1 ≤ 1 ∧ 16777215 + 1 - 1 ≤ 16777215 ∧ 65536 ≤ 65536 ∧ 16711680 + 65536 - 1 ≤ 16777215) := by decide +kernel

/-- No other window of a state shares a granule with window `w` when the others that are enabled lie below granule 2 and
window `w` above it, in both memories. -/
theorem shares_none (s : State) (w : WinIdx)
    (h : ∀ v : WinIdx, v ≠ w → s.windows[v].state ≠ .off →
      s.windows[v].localBase + s.windows[v].size ≤ s.windows[w].localBase ∧
        s.windows[v].remoteBase + s.windows[v].size ≤ s.windows[w].remoteBase) :
    ¬ ∃ v : WinIdx, v ≠ w ∧ s.windows[v].state ≠ .off ∧ ∃ g : Nat,
      (s.windows[w].localHas g = true ∧ s.windows[v].localHas g = true) ∨
        (s.windows[w].remoteHas g = true ∧ s.windows[v].remoteHas g = true) := by
  rintro ⟨v, hv, hs, g, hg⟩
  have := h v hv hs
  simp only [Window.localHas, Window.remoteHas, Bool.and_eq_true, decide_eq_true_eq] at hg
  omega

/-- `lone 0 window0` with window 6 of the largest size, OFF. -/
def crowded : State := { State.reset with windows := (State.reset.windows.set 0 window0).set 6 window6 }

theorem witness_EnableWindowChecksThenSuspends :
    15 < (16 : Byte).toNat ∧ (source.windows[(0 : WinIdx)]).state ≠ .off ∧
      ((source.windows[(4 : WinIdx)]).state = .off ∧ (source.windows[(4 : WinIdx)]).size = 0) ∧
      ((source.windows[(5 : WinIdx)]).state = .off ∧ 0 < (source.windows[(5 : WinIdx)]).size ∧
        ∃ v : WinIdx, v ≠ 5 ∧ source.windows[v].state ≠ .off ∧ ∃ g : Nat,
          ((source.windows[(5 : WinIdx)]).localHas g = true ∧ source.windows[v].localHas g = true) ∨
            ((source.windows[(5 : WinIdx)]).remoteHas g = true ∧ source.windows[v].remoteHas g = true)) ∧
      ((crowded.windows[(6 : WinIdx)]).state = .off ∧ 0 < (crowded.windows[(6 : WinIdx)]).size ∧
        (¬ ∃ v : WinIdx, v ≠ 6 ∧ crowded.windows[v].state ≠ .off ∧ ∃ g : Nat,
          ((crowded.windows[(6 : WinIdx)]).localHas g = true ∧ crowded.windows[v].localHas g = true) ∨
            ((crowded.windows[(6 : WinIdx)]).remoteHas g = true ∧ crowded.windows[v].remoteHas g = true)) ∧
        65536 < ((List.finRange 16).map fun v =>
            if crowded.windows[v].state = .off then 0 else crowded.windows[v].size).sum + 65536) ∧
      (((lone 6 window6).windows[(6 : WinIdx)]).state = .off ∧ 0 < ((lone 6 window6).windows[(6 : WinIdx)]).size ∧
        (¬ ∃ v : WinIdx, v ≠ 6 ∧ (lone 6 window6).windows[v].state ≠ .off ∧ ∃ g : Nat,
          (((lone 6 window6).windows[(6 : WinIdx)]).localHas g = true ∧ (lone 6 window6).windows[v].localHas g = true) ∨
            (((lone 6 window6).windows[(6 : WinIdx)]).remoteHas g = true ∧
              (lone 6 window6).windows[v].remoteHas g = true)) ∧
        ((List.finRange 16).map fun v =>
            if (lone 6 window6).windows[v].state = .off then 0 else (lone 6 window6).windows[v].size).sum + 65536 ≤
          65536) := by
  refine ⟨by decide, by decide, by decide, ⟨by decide, by decide, 0, by decide, by decide, 1, Or.inl (by decide)⟩,
    ⟨by decide, by decide, shares_none crowded 6 (by decide +kernel), by decide +kernel⟩, by decide, by decide,
    shares_none (lone 6 window6) 6 (by decide +kernel), by decide +kernel⟩

theorem witness_DisableAndPauseEndCapture :
    (15 < (16 : Byte).toNat ∧ (source.windows[(2 : WinIdx)]).state = .off ∧ (source.windows[(15 : WinIdx)]).state = .off ∧
      (source.windows[(1 : WinIdx)]).state ≠ .off ∧ (source.windows[(3 : WinIdx)]).state = .suspended ∧
      (source.windows[(1 : WinIdx)]).state = .sweeping ∧ (source.windows[(0 : WinIdx)]).state = .mirroring) ∧
      ∃ p, source.sweep.position = some p ∧ p.window ≠ (0 : WinIdx) :=
  ⟨by decide, _, rfl, by decide⟩

theorem witness_StartSweepChecksThenSweeps :
    ((15 < (16 : Byte).toNat ∧ 1 < (2 : Byte).toNat) ∧ State.reset.role ≠ .source ∧
      (hailing.role = .source ∧ hailing.link.state ≠ .up) ∧ (source.role = .source ∧ source.link.state = .up) ∧
      (source.windows[(2 : WinIdx)]).state = .off ∧ (source.windows[(1 : WinIdx)]).state = .sweeping ∧
      (source.windows[(0 : WinIdx)]).state = .mirroring ∧ (source.windows[(3 : WinIdx)]).state = .suspended ∧
      ((∀ g ∈ (source.withDirty [4]).dirty, (source.windows[(3 : WinIdx)]).localHas g = false) ∧
        ∀ e ∈ source.journal.entries, e.kind = .sweep → e.window ≠ 3) ∧
      ¬ (∀ g ∈ source.dirty, (source.windows[(3 : WinIdx)]).localHas g = false)) ∧
      ∃ p, source.sweep.position = some p :=
  ⟨by decide, _, rfl⟩

/-! Invariants of a busy SOURCE, of a SINK and of a unit in the loopback test. -/

theorem capturing_session : SessionInv capturing := by
  unfold SessionInv LinkLegal State.inSession; decide +kernel

theorem source_session : SessionInv source := by unfold SessionInv LinkLegal State.inSession; decide +kernel

theorem source_tags : TagInv source := by unfold TagInv; decide +kernel

theorem sink_session : SessionInv sink := by unfold SessionInv LinkLegal State.inSession; decide +kernel

theorem capturing_windows : WindowsInv capturing := by unfold WindowsInv WindowLegal; decide +kernel

theorem source_settled : Settled source := by unfold Settled; decide +kernel

theorem sink_settled : Settled sink := by unfold Settled; decide +kernel

theorem capturing_settled : Settled capturing := by unfold Settled; decide +kernel

theorem capturing_journal : JournalInv capturing := by
  refine ⟨by decide, ⟨by decide, by decide, trivial⟩, by decide, by decide, ?_, by decide, ?_⟩
  · intro e he
    have : e = update 10 true false [1] ∨ e = update 11 false true [] := by
      simpa [capturing] using he
    rcases this with rfl | rfl
    · exact ⟨by decide, fun h => absurd h (by decide), by decide, by decide⟩
    · exact ⟨by decide, fun _ => ⟨rfl, rfl⟩, by decide, by decide⟩
  · exact fun h => False.elim h

theorem capturing_records : LinkRecordInv capturing := by unfold LinkRecordInv State.inSession; decide +kernel

theorem capturing_dirty : DirtyInv capturing := by unfold DirtyInv; decide +kernel

theorem capturing_sweep : SweepInv capturing := by
  refine ⟨?_, ?_, ?_, by decide +kernel⟩
  · intro p hp; cases hp; decide +kernel
  · exact ⟨fun h => absurd h (by decide), fun h => False.elim h⟩
  · intro r hr; cases hr

theorem capturing_tags : TagInv capturing := by unfold TagInv; decide +kernel

theorem capturing_capacity : CapacityInv capturing := by unfold CapacityInv; decide +kernel

theorem capturing_timers : TimersInv capturing := by unfold TimersInv; decide

theorem sink_flags : SinkInv sink := by unfold SinkInv State.sinkSession; decide +kernel

theorem testing_test : TestInv testing := by
  unfold TestInv
  rw [if_pos (by decide)]
  exact ⟨by decide, 0, by decide, by decide, by decide, by decide⟩

theorem capturing_test : TestInv capturing := by unfold TestInv; rw [if_neg (by decide)]; decide

/-- A step that is not a tick, from a state that meets every invariant. -/
theorem witness_invariants :
    ∃ s t : State, step s = .next t ∧ s.pending = [.memoryCompletion (.ok zeros false)] ∧ SessionInv s ∧ WindowsInv s ∧
      JournalInv s ∧ LinkRecordInv s ∧ DirtyInv s ∧ SweepInv s ∧ TagInv s ∧ CapacityInv s ∧ TimersInv s ∧ TestInv s ∧
      Settled s :=
  ⟨capturing.withPending [.memoryCompletion (.ok zeros false)], _, rfl, rfl, capturing_session, capturing_windows,
    capturing_journal, capturing_records, capturing_dirty, capturing_sweep, capturing_tags, capturing_capacity,
    capturing_timers, capturing_test, by unfold Settled; decide +kernel⟩

theorem witness_invariants_of_a_sink_and_of_a_test :
    (∃ t, step (sink.withPending [.frameEnd]) = .next t) ∧ SinkInv (sink.withPending [.frameEnd]) ∧
      (∃ t, step (testing.withPending [.testFrameReturn []]) = .next t) ∧
      TestInv (testing.withPending [.testFrameReturn []]) :=
  ⟨⟨_, rfl⟩, sink_flags, ⟨_, rfl⟩, testing_test⟩

theorem witness_WindowsOwnAndTranslateLines :
    WindowsInv capturing ∧ (capturing.windows[(0 : WinIdx)]).state ≠ .off ∧
      (capturing.windows[(0 : WinIdx)]).localHas 0 = true ∧ (capturing.windows[(0 : WinIdx)]).localHas 1 = true ∧
      WindowLegal window0 ∧ window0.localHas (Line.granule 2047) = true ∧ window0.remoteHas (Line.granule 16384) = true ∧
      window0.remoteHas (Line.granule 18431) = true :=
  ⟨capturing_windows, by decide, by decide, by decide, by unfold WindowLegal; decide, by decide, by decide, by decide⟩

theorem witness_AssumeSourceFollowsTheRole :
    testing.link.test.running = true ∧ (source.link.test.running = false ∧ source.role = .source) ∧
      (State.reset.link.test.running = false ∧ State.reset.role = .isolated ∧ State.reset.link.state = .down ∧
        State.reset.link.signal = .absent) ∧
      (State.reset.withLink { State.reset.link with signal := .present }).link.signal = .present ∧
      (State.reset.withRole .draining).role = .draining ∧
      (sink.link.test.running = false ∧ sink.role = .sink ∧ sink.rx.applyQueue ≠ [] ∧ sink.link.state = .up) ∧
      (sink.withRx { sink.rx with applyQueue := [] }).rx.applyQueue = [] := by decide +kernel

theorem witness_AssumeSinkFollowsTheRole :
    1 < (2 : Byte).toNat ∧ testing.link.test.running = true ∧
      (source.link.test.running = false ∧ source.role = .source ∧ source.journal.entries ≠ []) ∧
      (SessionInv source ∧ TagInv source ∧ source.role = .source) ∧ (SessionInv State.reset ∧ State.reset.role = .isolated) ∧
      (SessionInv hailing ∧ hailing.role = .source ∧ hailing.journal.entries = []) ∧
      (sink.role = .sink ∧ sink.link.test.running = false) := by
  refine ⟨by decide, by decide, by decide, ⟨source_session, source_tags, rfl⟩, ⟨?_, rfl⟩, ⟨?_, rfl, rfl⟩, rfl, rfl⟩ <;>
    unfold SessionInv LinkLegal State.inSession <;> decide +kernel

theorem witness_IsolateKeepsEveryLineCovered :
    State.reset.role = .isolated ∧ (SessionInv source ∧ TagInv source ∧ source.role ≠ .isolated) ∧
      (SessionInv sink ∧ sink.role ≠ .isolated) :=
  ⟨rfl, ⟨source_session, source_tags, by decide⟩, sink_session, by decide⟩

theorem witness_DrainEndMakesTheUnitSource :
    (¬ (sink.role = .draining ∧ sink.rx.applyQueue = [])) ∧
      (LinkLegal (State.reset.withRole .draining) ∧ (State.reset.withRole .draining).link.test.running = false ∧
        (State.reset.withRole .draining).role = .draining ∧ (State.reset.withRole .draining).rx.applyQueue = []) := by
  unfold LinkLegal; decide +kernel

theorem witness_LoopbackTestCountsEveryFrame :
    ((0 : BitVec 16) = 0 ∧ (1 : BitVec 16) ≠ 0 ∧ (65535 : BitVec 16) ≠ 0) ∧ source.role ≠ .isolated ∧
      (testing.role = .isolated ∧ testing.link.test.running = true) ∧
      (State.reset.role = .isolated ∧ State.reset.link.test.running = false) ∧ State.reset.link.test.inLoop = none ∧
      (testing.link.test.inLoop = some 0 ∧ (0 : BitVec 16) + 1 ≠ testing.link.test.requested ∧
        testing.link.test.sent = 0 + 1) ∧
      (testing.withLink { testing.link with test := { testing.link.test with requested := 1 } }).link.test.requested =
        0 + 1 := by decide +kernel

/-! Witnesses for the statements on the host port and the memory port. -/

/-- A write of byte 0 to the line, with the tag. -/
def writeTo (tag : Tag) (line : Line) : QueuedRequest := { tag := tag, line := line, op := .write 1 zeros false }

/-- A read of the line, with the tag. -/
def readOf (tag : Tag) (line : Line) : QueuedRequest := { tag := tag, line := line, op := .read }

/-- `s` with these requests in the host queue and no tag elsewhere. -/
def queued (s : State) (q : List QueuedRequest) : State :=
  s.withHost { s.host with queue := q, tags := q.map QueuedRequest.tag }

theorem witness_HostHeadFollowsTheTables :
    source.owner (Line.granule 99999) = none ∧
      (source.owner (Line.granule 12288) = some 3 ∧ source.role = .source ∧
        (source.windows[(3 : WinIdx)]).state = .suspended) ∧
      (source.owner (Line.granule 2047) = some 0 ∧ (source.windows[(0 : WinIdx)]).state = .mirroring) ∧
      (source.owner (Line.granule 4096) = some 1 ∧ (source.windows[(1 : WinIdx)]).state = .sweeping) ∧
      ((source.withRole .isolated).owner (Line.granule 5) = some 0) ∧
      (sink.owner (Line.granule 5) = some 0 ∧ sink.role = .sink ∧ sink.service.override = false) ∧
      (sink.withService { sink.service with override := true }).service.override = true ∧
      ((sink.role = .sink ∧ ∃ e ∈ sink.rx.applyQueue, e.target = (readOf 1 5).line) ∧
        ¬ (source.role = .sink ∨ source.role = .draining)) ∧
      ((writeTo 1 5).op = .write 1 zeros false ∧ (1 : Mask) ≠ 0 ∧ sink.classify 5 = .fence ∧
        source.classify 99999 = .pass ∧ source.classify 12288 = .track 3 ∧ source.classify 5 = .capture 0) ∧
      (source.merges 0 5 false = true ∧ source.merges 0 6 false = false ∧ source.journal.entries.length < 512 ∧
        512 ≤ stalled.journal.entries.length ∧ stalled.merges 0 6 false = false) := by decide +kernel

theorem witness_HostRequestIsAcceptedOrDiscarded :
    ({ State.reset with host := { State.reset.host with resetLine := true } } : State).host.resetLine = true ∧
      (source.host.resetLine = false ∧ (1 : Tag) ∈ source.host.tags) ∧
      (source.host.resetLine = false ∧ (15 : Tag) ∉ source.host.tags) ∧
      ((queued capturing [writeTo 3 5]).host.resetLine = false ∧ Settled (queued capturing [writeTo 3 5]) ∧
        (queued capturing [writeTo 3 5]).host.queue ≠ []) := by
  unfold Settled; decide +kernel

theorem witness_SettlingFollowsTheRules :
    (∃ p, source.sweep.position = some p) ∧
      (State.reset.sweep.position = none ∧ State.reset.dirty.Pairwise (· < ·) ∧ State.reset.settle.sweep.position = none) ∧
      (source.dropPosition.sweep.position = none ∧ source.dirty.Pairwise (· < ·) ∧
        source.dropPosition.settle.sweep.position = some { window := 1, granule := 4, nextLine := 0 }) ∧
      (State.reset.settle.internalStands = false ∧ idleSource.settle.internalStands = true) ∧
      (sink.condition (writeTo 2 5) = .answered .fenced ∧ sink.condition (readOf 3 5) = .hazard ∧
        (queued sink [writeTo 2 5, readOf 3 5]).settle.host.queue = [readOf 3 5]) :=
  ⟨⟨_, rfl⟩, by decide +kernel, by decide +kernel, by decide +kernel, by decide +kernel⟩

theorem witness_HostPortResetDropsEveryTag :
    ({ State.reset with host := { State.reset.host with resetLine := true } } : State).host.resetLine = true ∧
      capturing.host.resetLine = false := by decide

/-- `s` with this passed-over count. -/
def passed (s : State) (n : Nat) : State := s.withPort { s.port with passedOver := n }

theorem witness_ArbiterGrantsByItsRows :
    capturing.port.op ≠ none ∧
      (let s := queued idleSink [readOf 1 5]
      s.port.op = none ∧ s.applyCandidate = true ∧ s.headCondition = some .hazard) ∧
      (let s := idleSink.withRx { sink.rx with applyQueue := List.replicate 40 (applyEntry 80 .update 1 5) }
      s.applyCandidate = true ∧ 40 ≤ s.rx.applyQueue.length) ∧
      (let s := queued State.reset [readOf 1 5]
      s.headCondition = some .ready ∧ s.applyCandidate = false ∧ s.sweepCandidate = false) ∧
      (let s := passed (queued idleSink [readOf 1 6]) 3
      s.headCondition = some .ready ∧ s.applyCandidate = true ∧ s.rx.applyQueue.length < 40 ∧ s.port.passedOver < 4) ∧
      (let s := passed (queued idleSink [readOf 1 6]) 4
      s.headCondition = some .ready ∧ s.applyCandidate = true ∧ s.rx.applyQueue.length < 40 ∧ 4 ≤ s.port.passedOver) ∧
      (let s := passed (queued idleSource [readOf 1 6]) 4
      s.headCondition = some .ready ∧ s.applyCandidate = false ∧ s.sweepCandidate = true ∧ 4 ≤ s.port.passedOver) ∧
      (idleSink.headCondition = none ∧ idleSink.applyCandidate = true ∧ idleSink.rx.applyQueue.length < 40) ∧
      (idleSource.headCondition = none ∧ idleSource.applyCandidate = false ∧ idleSource.sweepCandidate = true) ∧
      (State.reset.headCondition = none ∧ State.reset.applyCandidate = false ∧ State.reset.sweepCandidate = false) ∧
      (Settled idleSink ∧ idleSink.coldPin = false ∧ idleSink.examineDue = false ∧ ¬ Ready idleSink) ∧
      (idleSink.disableWindow 0).examineDue = true := by
  unfold Settled Ready; decide +kernel

theorem witness_GrantsStartTheOperation :
    ((queued source [readOf 1 5]).host.queue = readOf 1 5 :: [] ∧ (readOf 1 5).op = .read) ∧
      ((writeTo 1 5).op = .write 1 zeros false ∧ source.classify 99999 = .pass ∧ source.classify 12288 = .track 3 ∧
        source.classify 5 = .capture 0) ∧
      (let e := update 11 false false []
      source.journal.entries = [update 10 true false [1]] ++ [e] ∧ (source.windows[(0 : WinIdx)]).kind = .mirror ∧
        e.kind = .update ∧ e.everSent = false ∧ e.poison = false ∧ e.heldTags.length < 16 ∧ e.window = 0 ∧
        e.localLine = 5 ∧ e.target = (source.windows[(0 : WinIdx)]).translate 5 ∧ e.localLine ≠ 6) ∧ (∃ p, source.sweep.position = some p) ∧
      (∃ e rest, sink.rx.applyQueue = e :: rest ∧ sink.role = .sink) ∧
      (let s := source.withRx { source.rx with applyQueue := [applyEntry 80 .update 1 5] }
      s.role = .source ∧ s.owner (Line.granule 5) = some 0 ∧ (s.windows[(0 : WinIdx)]).capturing = true ∧
        s.owner (Line.granule 12288) = some 3 ∧ (s.windows[(3 : WinIdx)]).capturing = false ∧
        s.owner (Line.granule 99999) = none) :=
  ⟨by decide +kernel, by decide +kernel, by decide +kernel, ⟨_, rfl⟩, ⟨_, _, rfl, rfl⟩, by decide +kernel⟩

/-- `s` with an operation on the port. -/
def onPort (s : State) (line : Line) (access : Access) (owner : Owner) : State :=
  s.withPort { op := some { line := line, access := access, owner := owner }, passedOver := 0 }

theorem witness_HostCompletionsAnswer :
    State.reset.port.op = none ∧
      (Settled (onPort source 5 .read (.host none .read)) ∧ Settled (onPort source 5 .read (.host (some 2) .read))) ∧
      (∃ mask data tag cls q, capturing.port.op =
        some { line := 5, access := .write mask data false, owner := .host (some tag) (.capture cls q) } ∧ cls = .held ∧
          ∃ e ∈ capturing.journal.entries, e.seq = q ∧ e.isOpen = true) ∧
      (¬ ∃ e ∈ source.journal.entries, e.seq = (11 : Seq) ∧ e.isOpen = true) ∧
      Completion.ok zeros false ≠ Completion.error := by
  refine ⟨rfl, ?_, ⟨_, _, _, _, _, rfl, rfl, by decide⟩, by decide, by decide⟩
  unfold Settled; decide +kernel

theorem witness_SweepCompletionAppendsTheLine :
    (∃ line w, source.port.op = some { line := line, access := .read, owner := .sweep w false } ∧
        source.windows[w].state = .sweeping ∧ source.windows[w].localHas line.granule = true ∧
        (∃ r, source.sweep.inFlight = some r ∧ r.current = true) ∧
        ∃ p, source.sweep.position = some p ∧ p.nextLine ≠ 1023) ∧
      (∃ p, (source.withSweep
          { source.sweep with
            position := some { window := 1, granule := 4, nextLine := 1023 } }).sweep.position = some p ∧
        p.nextLine = 1023) ∧
      (¬ ∃ r, source.dropPosition.sweep.inFlight = some r ∧ r.current = true) ∧
      ((source.suspendWindow 1 .paused).windows[(1 : WinIdx)]).state ≠ .sweeping ∧
      (onPort source 4101 .read (.sweep 1 true)).port.op =
        some { line := 4101, access := .read, owner := .sweep 1 true } := by
  refine ⟨⟨_, _, rfl, by decide, by decide, ⟨_, rfl, rfl⟩, _, rfl, by decide⟩, ⟨_, rfl, rfl⟩, ?_, by decide +kernel, rfl⟩
  rintro ⟨r, hr, hc⟩
  cases hr
  exact absurd hc (by decide)

theorem witness_StallExpirySuspendsCapture :
    (stalled.headCondition = some .stalled ∧ stalled.journal.stallStart = some 0 ∧
        stalled.service.timers.tStall ≤ (stalled.time - 0).toNat ∧ stalled.classify 6 = .capture 0 ∧
        stalled.host.queue = [writeTo 2 6] ∧ stalled.link.lane ≠ none) ∧
      ((atTime stalled 19).headCondition = some .stalled ∧
        ¬ (atTime stalled 19).service.timers.tStall ≤ ((atTime stalled 19).time - 0).toNat) ∧
      stalled.service.faults.length < 8 := by decide +kernel

theorem witness_HoldExpiryReleasesTheTag :
    (∀ r ∈ (atTime source 499).host.held, r.tag = 1 →
        ((atTime source 499).time - r.start).toNat < (atTime source 499).service.timers.tHeld) ∧
      (let r : HeldRecord := { tag := 1, seq := 10, start := 0 }
      r ∈ (atTime source 500).host.held ∧ (∀ x ∈ (atTime source 500).host.held, x.tag = 1 → x = r) ∧
        (atTime source 500).service.timers.tHeld ≤ ((atTime source 500).time - r.start).toNat) := by decide +kernel

/-! Witnesses for the statements on the journal, the sequencer and the link. -/

theorem witness_SequencePositionsAreTheFirstThatFits :
    (32768 ≤ ((9 : Seq) - 10).toNat ∧ source.journal.place 9 = .old) ∧ source.journal.place 32778 = .old ∧
      source.journal.place 32777 = .beyond ∧ source.journal.place 10 = .inFlight 0 ∧ source.journal.place 11 = .atSend ∧
      ({ source.journal with
          entries := source.journal.entries ++ [update 12 false false []], nextSeq := 13 } : Journal).place 12 = .waiting ∧
      source.journal.place 12 = .beyond ∧ State.reset.journal.place 0 = .atSend ∧
      (∀ e ∈ State.reset.journal.entries, e.sent = true) ∧
      source.journal.entries = [update 10 true false [1]] ++ update 11 false false [] :: [] := by decide +kernel

theorem witness_SequencerTimersAndRewinds :
    ((atTime source 50).inSession ∧ (atTime source 50).seq.ackStart = some 0 ∧
        (atTime source 50).service.timers.tAck ≤ ((atTime source 50).time - 0).toNat) ∧
      (¬ (atTime source 49).service.timers.tAck ≤ ((atTime source 49).time - 0).toNat) ∧
      (Settled (atTime drained 200) ∧ (atTime drained 200).inSession ∧ (atTime drained 200).link.lane = none ∧
        (atTime drained 200).journal.entries.find? (fun x => !x.sent) = none ∧
        (atTime drained 200).seq.lastSend = some 0 ∧
        (atTime drained 200).service.timers.tProbe ≤ ((atTime drained 200).time - 0).toNat) ∧
      (¬ (atTime drained 199).service.timers.tProbe ≤ ((atTime drained 199).time - 0).toNat) ∧
      source.seq.rounds + 1 ≤ source.service.timers.roundLimit ∧
      source.service.timers.roundLimit < (source.withSeq { source.seq with rounds := 1 }).seq.rounds + 1 := by
  unfold Settled State.inSession; decide +kernel

theorem witness_FrameEndOnASourceSendsTheCursor :
    drained.link.lane = none ∧ (Settled source ∧ source.inSession ∧ source.link.lane ≠ none) ∧
      (source.journal.entries = [update 10 true false [1]] ++ update 11 false false [] :: [] ∧
        (∀ x ∈ [update 10 true false [1]], x.sent = true) ∧ [update 10 true false [1]].length < 32) ∧
      (Settled capturing ∧ capturing.inSession ∧
        capturing.journal.entries.find? (fun x => !x.sent) = some (update 11 false true []) ∧
        (update 11 false true []).isOpen = true) ∧
      (capturing.seq.lastSend = some 0 ∧
        capturing.service.timers.tProbe ≤ ((atTime capturing 200).time - 0).toNat ∧
        ((atTime capturing 199).time - 0).toNat < capturing.service.timers.tProbe) := by
  unfold Settled State.inSession; decide +kernel

/-- A PROBE of an ended session is still on the lane, in each state and role that has no sender. -/
theorem witness_FrameEndWithoutASender :
    let s := State.reset.withLink { State.reset.link with lane := some (.probe 3) }
    let clash := (s.withRole .source).withLink { s.link with state := .clash, epoch := 3, signal := .present }
    (Settled s ∧ s.link.state = .down ∧ s.role = .isolated) ∧ (Settled (s.withRole .draining)) ∧
      (Settled (s.withRole .sink) ∧ (s.withRole .sink).link.state = .down) ∧
      (Settled clash ∧ clash.link.state = .clash ∧
        after .frameEnd clash (fun t => t == clash.withLink { clash.link with lane := none }) = true) := by
  unfold Settled; decide +kernel

theorem witness_FrameEndOnASinkFollowsTheOrder :
    (Settled sink ∧ sink.sinkSession ∧ sink.link.lane = some (.ack 12 79 0)) ∧ sink.rx.reportQueue = [] ∧
      sink.rx.nakSlot = none ∧ sink.rx.ackPending = false ∧ sink.rx.replyOwed = false ∧
      (let s := sink.withRx
        { sink.rx with
          reportQueue := [{ epoch := 12, seq := 80, kind := .range, target := 0 }], nakSlot := some .gap
          ackPending := true, replyOwed := true }
      Settled s ∧ s.sinkSession ∧ s.rx.reportQueue ≠ [] ∧ s.rx.nakSlot = some .gap ∧ s.rx.ackPending = true ∧
        s.rx.replyOwed = true) := by
  unfold Settled State.sinkSession; decide +kernel

/-- A SINK in HAIL, a HELLO owed, with a frame of its last session on the lane. -/
def hailingSink : State :=
  sink.withLink { sink.link with state := .hail, lastReceipt := none, helloDue := true }

theorem witness_HailIsEnteredAndSendsHello :
    (((State.reset.withRole .source).withLink { State.reset.link with signal := .present }).link.state = .down ∧
        (State.reset.withRole .source).role = .source ∧ (State.reset.withRole .source).link.test.running = false) ∧
      State.reset.role = .isolated ∧ (1 ≤ (1 : Epoch).toNat ∧ (254 : Epoch).toNat ≤ 254) ∧
      (hailingSink.link.state = .hail ∧ Settled hailingSink ∧ hailingSink.link.lane ≠ none ∧
        hailingSink.link.helloDue = true ∧ hailingSink.role = .sink) ∧
      (hailing.link.state = .hail ∧ hailing.role = .source ∧ hailing.link.helloDue = false ∧
        hailing.link.lastHello = some 0 ∧ 100 ≤ ((atTime hailing 100).time - 0).toNat ∧
        ((atTime hailing 99).time - 0).toNat < 100) := by
  unfold Settled; decide +kernel

theorem witness_LinkLossEndsTheSession :
    State.reset.link.state ≠ .up ∧ (source.link.state = .up ∧ source.role = .source) ∧
      (sink.link.state = .up ∧ sink.role = .sink) ∧ (sink.withRole .draining).role = .draining ∧
      (sink.link.lastReceipt = some 0 ∧ sink.service.timers.tQuiet ≤ ((atTime sink 1000).time - 0).toNat ∧
        ¬ sink.service.timers.tQuiet ≤ ((atTime sink 999).time - 0).toNat) := by decide +kernel

theorem witness_SignalChangeActsByTheLinkState :
    LaneSignal.absent = State.reset.link.signal ∧ LaneSignal.present ≠ State.reset.link.signal ∧
      LaneSignal.absent ≠ sink.link.signal ∧ State.reset.link.state = .down ∧ hailingSink.link.state = .hail ∧
      sink.link.state = .up ∧ ((State.reset.withRole .sink).role = .sink ∧ (State.reset.withRole .sink).link.state = .down ∧
        (State.reset.withRole .sink).link.test.running = false) ∧ State.reset.role = .isolated := by decide +kernel

theorem witness_DamagedAndUnheededFrames :
    (held sink).coldPin = true ∧ State.reset.link.signal = .absent ∧ testing.link.test.running = true ∧
      (sink.link.signal = .present ∧ sink.link.test.running = false ∧ sink.sinkSession ∧
        sink.rx.nakOutstanding = false) ∧
      (source.link.signal = .present ∧ ¬ source.sinkSession ∧ source.role ≠ .sink ∧ source.link.state = .up) ∧
      (Settled (sink.withRx { sink.rx with nakOutstanding := true }) ∧
        (sink.withRx { sink.rx with nakOutstanding := true }).sinkSession) ∧
      (sink.role ≠ .source ∧ hailing.link.state ≠ .up) := by
  unfold Settled State.sinkSession; decide +kernel

theorem witness_HelloOpensAndRestartsSessions :
    (hailing.link.state = .hail ∧ hailing.link.signal = .present ∧ hailing.link.test.running = false ∧
        hailing.role = .source ∧ (5 : Epoch) = hailing.link.epoch ∧ (6 : Epoch) ≠ hailing.link.epoch) ∧
      (hailingSink.link.state = .hail ∧ hailingSink.link.signal = .present ∧ hailingSink.role = .sink ∧
        hailingSink.rx.applyQueue.length ≤ 16 ∧ (∀ a ∈ hailingSink.rx.applyQueue, a.epoch ≠ 13) ∧
        ∃ a ∈ hailingSink.rx.applyQueue, a.epoch = 12) ∧
      16 < (hailingSink.withRx
        { sink.rx with applyQueue := List.replicate 17 (applyEntry 80 .update 1 5) }).rx.applyQueue.length ∧
      State.reset.link.state = .down ∧ (sink.link.state = .up ∧ sink.role = .sink) ∧
      (source.link.state = .up ∧ source.role = .source) := by decide +kernel

theorem witness_SinkTakesDataFramesAndProbes :
    (sink.sinkSession ∧ sink.link.signal = .present ∧ sink.link.test.running = false) ∧
      ((updateFrame 81).epoch = sink.link.epoch ∧ (updateFrame 81).seq = sink.rx.expected ∧
        sink.rx.applyQueue.length < 48) ∧
      48 ≤ (sink.withRx { sink.rx with applyQueue := List.replicate 48 (applyEntry 80 .update 1 5) }).rx.applyQueue.length ∧
      ((updateFrame 32849).seq ≠ sink.rx.expected ∧ 32768 ≤ ((updateFrame 32849).seq - sink.rx.expected).toNat) ∧
      ((updateFrame 32848).seq ≠ sink.rx.expected ∧ ((updateFrame 32848).seq - sink.rx.expected).toNat ≤ 32767) ∧
      sink.rx.nakOutstanding = false ∧ (sink.withRx { sink.rx with nakOutstanding := true }).rx.nakOutstanding = true ∧
      (11 : Epoch) ≠ sink.link.epoch := by
  unfold State.sinkSession; decide +kernel

theorem witness_NakAndAckAndReport :
    (source.inSession ∧ source.link.signal = .present ∧ source.link.test.running = false) ∧
      ((4 : Epoch) ≠ source.link.epoch ∧ (3 : Epoch) = source.link.epoch) ∧
      (source.journal.place 10 = .inFlight 0 ∧ source.journal.place 11 = .atSend ∧ source.journal.place 9 = .old ∧
        source.journal.place 12 = .beyond) ∧
      source.journal.entries = update 10 true false [1] :: [update 11 false false []] ∧
      (source.journal.entries.find? (fun x => x.seq = 10) = some (update 10 true false [1]) ∧
        source.owner (update 10 true false [1]).localLine.granule = some 0) ∧
      ((source.disableWindow 0).owner (update 10 true false [1]).localLine.granule = none) ∧
      ((∀ e ∈ source.journal.entries, e.seq ≠ 9) ∧ source.remoteOwner (Line.granule 16384) = some 0 ∧
        source.remoteOwner (Line.granule 0) = none) := by
  unfold State.inSession; decide +kernel

theorem witness_ApplyHeadIsExaminedAndCompleted :
    State.reset.rx.applyQueue = [] ∧
      (idleSink.rx.applyQueue = applyEntry 80 .update 1 5 :: [] ∧ idleSink.headOnPort = false ∧
        idleSink.rx.reportQueue.length < 8 ∧ idleSink.coldPin = false ∧ (applyEntry 80 .update 1 5).mask ≠ 0 ∧
        idleSink.owner (Line.granule 5) = some 0) ∧
      (applyEntry 80 .update 0 5).mask = 0 ∧ idleSink.owner (Line.granule 99999) = none ∧
      8 ≤ (List.replicate 8 ({ epoch := 12, seq := 80, kind := .range, target := 0 } : Report)).length ∧
      (sink.headOnPort = true ∧
        sink.port.op =
          some
            { line := 5, access := .write 1 zeros false
              owner := .apply (applyEntry 80 .update 1 5) (some 0) false }) ∧
      (let s := (onPort sink 5 (.write 1 zeros false) (.apply (applyEntry 80 .update 1 5) (some 0) true)).withRx
        { sink.rx with applyQueue := [] }
      Ready s ∧ ∃ o, s.port.op = some o ∧ o.owner = .apply (applyEntry 80 .update 1 5) (some 0) true) := by
  refine ⟨by decide, by decide +kernel, by decide, by decide +kernel, by decide, by decide +kernel, ?_, _, rfl, rfl⟩
  exact ready_of_busy_port rfl rfl (Or.inl rfl)

/-- `hailing` with a HELLO owed and a frame on the lane. -/
def hailingOwed : State := hailing.withLink { hailing.link with helloDue := true, lane := some (.probe 4) }

/-- `hailingSink` with `n` entries in its apply queue. -/
def hailingSinkWith (n : Nat) : State :=
  hailingSink.withRx { sink.rx with applyQueue := List.replicate n (applyEntry 80 .update 1 5) }

theorem witness_HailSendsHello_at_the_boundaries :
    (Settled hailingOwed ∧ hailingOwed.link.state = .hail ∧ hailingOwed.link.lane ≠ none ∧ hailingOwed.role = .source ∧
        hailingOwed.link.helloDue = true) ∧
      (Settled (hailingSinkWith 16) ∧ (hailingSinkWith 16).link.lane ≠ none ∧ (hailingSinkWith 16).role = .sink ∧
        (hailingSinkWith 16).link.helloDue = true ∧ (hailingSinkWith 16).rx.applyQueue.length ≤ 16) ∧
      (Settled (hailingSinkWith 17) ∧ (hailingSinkWith 17).link.lane ≠ none ∧ (hailingSinkWith 17).role = .sink ∧
        (hailingSinkWith 17).link.helloDue = true ∧ ¬ (hailingSinkWith 17).rx.applyQueue.length ≤ 16) := by
  unfold Settled; decide +kernel

/-- `sink` in UP with nothing on the lane and this to send. -/
def sending (reports : List Report) (nak : Option NakReason) (ack reply : Bool) : State :=
  freeLane
    (sink.withRx { sink.rx with reportQueue := reports, nakSlot := nak, ackPending := ack, replyOwed := reply })

/-- The free lane of each role and link state, and what `settle` puts on it. -/
theorem witness_SettlingChoosesTheFrame :
    source.link.lane ≠ none ∧ State.reset.role = .isolated ∧
      ((freeLane source).link.lane = none ∧ (freeLane source).link.state = .up ∧ (freeLane source).role = .source ∧
        (freeLane source).journal.entries = [update 10 true false [1]] ++ update 11 false false [] :: [] ∧
        (freeLane source).journal.entries.countP (·.sent) < 32 ∧
        (freeLane source).settle.link.lane = some (.data ((update 11 false false []).frame 3))) ∧
      ((freeLane capturing).journal.entries.find? (fun x => !x.sent) = some (update 11 false true []) ∧
        (freeLane capturing).settle.link.lane = none) ∧
      ((freeLane hailingOwed).enterHail.link.state = .hail ∧ (freeLane hailingOwed).enterHail.link.helloDue = true ∧
        (freeLane hailingOwed).settle.link.lane = some (.hello (.source 5 300)) ∧ hailing.settle.link.lane = none) ∧
      ((freeLane (hailingSinkWith 16)).settle.link.lane = some (.hello (.sink 12)) ∧
        (freeLane (hailingSinkWith 17)).settle.link.lane = none) ∧
      (sending [{ epoch := 12, seq := 80, kind := .range, target := 0 }] (some .gap) true true).settle.link.lane =
        some (.report { epoch := 12, seq := 80, kind := .range, target := 0 }) ∧
      (sending [] (some .gap) true true).settle.link.lane = some (.nak 12 81 .gap) ∧
      (sending [] none true true).settle.link.lane = some (.ack 12 79 0) ∧
      (sending [] none false true).settle.link.lane = some (.hello (.sink 12)) ∧
      (sending [] none false false).settle.link.lane = none := by decide +kernel

/-- An entry of each kind at the head of the journal. -/
theorem witness_AcknowledgedEntriesReleaseTheirTags :
    ∀ kind : EntryKind,
      ∃ e rest, (source.withEntries [{ update 10 true false [1] with kind := kind }]).journal.entries = e :: rest ∧
        e.kind = kind ∧ e.mask ≠ 0 := by
  intro kind
  exact ⟨_, _, rfl, rfl, show (1 : Mask) ≠ 0 by decide⟩

theorem witness_RestartIsTheWarmReset :
    TagInv capturing ∧ Settled capturing ∧ capturing.coldPin = false ∧
      capturing.journal.entries.flatMap (·.heldTags) = [1] := ⟨capturing_tags, capturing_settled, rfl, by decide⟩

theorem witness_HeldPinStopsTheUnit :
    (held source).coldPin = true ∧ ColdPinInv (held source) ∧ (held source).pending = [] ∧
      source.coldPin = false ∧ source.link.lane = some (.probe 3) ∧ drained.link.lane = none :=
  ⟨rfl, fun _ => cold_values source true, rfl, rfl, rfl, rfl⟩

theorem witness_ColdResetSetsEveryField : (held source).coldPin = true ∧ source.coldPin = false := ⟨rfl, rfl⟩

/-- The premise `Ready` for the states that the witnesses above make of the small states. -/
theorem witness_ready_of_the_variants :
    ∀ s ∈
      [({ State.reset with host := { State.reset.host with resetLine := true } } : State), faulty 8, crowded,
      lone 6 window6, State.reset.withRole .draining,
      (State.reset.withRole .source).withLink { State.reset.link with signal := .present }, source.withDirty [4],
      atTime source 1000, atTime drained 200, atTime stalled 19, atTime sink 1000, atTime hailing 100,
      queued capturing [writeTo 3 5], onPort source 5 .read (.host (some 2) .read), source.suspendWindow 1 .paused,
      source.dropPosition, source.disableWindow 0, hailingOwed, hailingSink, hailingSinkWith 17,
      sink.withRx { sink.rx with applyQueue := List.replicate 48 (applyEntry 80 .update 1 5) },
      sink.withRx { sink.rx with nakOutstanding := true }, sink.withLink { sink.link with state := .clash }],
      Ready s := by
  unfold Ready; decide +kernel

end Sys2Proof.Tests
end

section
/-! The moves of the tables. What one step does to the role, the link state, the windows, the dirty set, the sweep engine and
the kinds of the journal's entries is a chain of a few moves; an invariant of these tables is then shown move by move. -/

namespace Sys2Proof.Machine

/-! ### Reading one window after an update -/

theorem updateWindow_get (s : State) (w v : WinIdx) (f : Window → Window) :
    (s.updateWindow w f).windows[v] = if v = w then f s.windows[w] else s.windows[v] := by
  simp only [State.updateWindow, State.withWindows_windows, Fin.getElem_fin, Vector.getElem_set, Fin.val_inj, eq_comm]

theorem enabled_iff (w : Window) : w.enabled = true ↔ w.state ≠ .off := by simp [Window.enabled]

theorem enabled_false_iff (w : Window) : w.enabled = false ↔ w.state = .off := by simp [Window.enabled]

theorem capturing_iff (w : Window) : w.capturing = true ↔ w.state = .sweeping ∨ w.state = .mirroring := by
  simp [Window.capturing]

theorem enabled_of_capturing {w : Window} (h : w.capturing = true) : w.enabled = true := by
  rw [capturing_iff] at h
  rw [enabled_iff]
  rcases h with h | h <;> simp [h]

theorem owner_some {s : State} {g : Nat} {w : WinIdx} (h : s.owner g = some w) :
    s.windows[w].enabled = true ∧ s.windows[w].localHas g = true := by
  simpa using List.find?_some h

theorem remoteOwner_some {s : State} {g : Nat} {w : WinIdx} (h : s.remoteOwner g = some w) :
    s.windows[w].enabled = true ∧ s.windows[w].remoteHas g = true := by
  simpa using List.find?_some h

/-! ### Moves -/

/-- `t` reads as `s` in the tables; of the journal it says only that every entry of `t` stands for one of `s` of its kind
and window, so that entries may have left. -/
structure SameTables (s t : State) : Prop where
  role : t.role = s.role
  link : t.link.state = s.link.state
  windows : t.windows = s.windows
  dirty : t.dirty = s.dirty
  sweep : t.sweep = s.sweep
  port : t.port.sweeping ↔ s.port.sweeping
  entries : ∀ e ∈ t.journal.entries, ∃ x ∈ s.journal.entries, x.kind = e.kind ∧ x.window = e.window

/-- One move of the tables. Each carries what the model has checked when it makes it, and no invariant. -/
inductive Move : State → State → Prop
  /-- Everything that the tables do not show, and entries leaving the journal. -/
  | same {s t : State} (h : SameTables s t) : Move s t
  /-- An entry joins the journal while a window captures; a SWEEP entry for a window that does not mirror (R21, R30). -/
  | append {s : State} (e : JournalEntry) (hs : ∃ w : WinIdx, s.windows[w].capturing = true)
      (he : e.kind = .sweep → s.windows[e.window].state ≠ .mirroring) :
      Move s (s.withJournal (s.journal.append e))
  /-- Granules are marked dirty for enabled windows that do not mirror (R77). -/
  | mark {s : State} (d : List Nat) (hr : s.role = .source ∨ s.role = .isolated)
      (hsort : s.dirty.Pairwise (· < ·) → d.Pairwise (· < ·)) (hkeep : ∀ g ∈ s.dirty, g ∈ d)
      (hnew : ∀ g ∈ d, g ∈ s.dirty ∨ ∃ w : WinIdx, s.windows[w].enabled = true ∧ s.windows[w].localHas g = true ∧
        (s.windows[w].state = .mirroring → ¬ s.inSession)) :
      Move s (s.withDirty d)
  /-- Granules leave the dirty set while the sweep engine has no position (R79, R86). -/
  | clean {s : State} (d : List Nat) (hd : d.Sublist s.dirty) (hp : s.sweep.position = none) : Move s (s.withDirty d)
  /-- The sweep engine drops its position (R88). -/
  | drop {s : State} : Move s s.dropPosition
  /-- Enabled windows pass to SUSPENDED, none of them the position's (R13 to R17). -/
  | suspend {s : State} (v : Vector Window 16)
      (hv : ∀ w : WinIdx, v[w] = s.windows[w] ∨ s.windows[w].enabled = true ∧ ∃ c, v[w] = s.windows[w].suspend c)
      (hp : ∀ p, s.sweep.position = some p → v[p.window] = s.windows[p.window]) : Move s (s.withWindows v)
  /-- A SUSPENDED window begins to sweep (R82). -/
  | startSweep {s : State} (w : WinIdx) (hs : s.inSession) (hw : s.windows[w].state = .suspended) :
      Move s (s.updateWindow w fun x => { x with state := .sweeping })
  /-- The R12 test. -/
  | test {s : State} (w : WinIdx) : Move s (s.sweepTest w)
  /-- An OFF window is programmed (R4). -/
  | program {s : State} (w : WinIdx) (x : Window) (hw : s.windows[w].state = .off) (hx : x.state = .off)
      (hl : WindowLegal x) : Move s (s.updateWindow w fun _ => x)
  /-- An OFF window that passed the checks of R5 is enabled. -/
  | enable {s : State} (w : WinIdx) (c : SuspendCause) (hw : s.windows[w].state = .off) (hsize : 0 < s.windows[w].size)
      (ho : s.overlaps w = false) (ht : s.enabledTotal + s.windows[w].size ≤ Config.windowLimit) :
      Move s (s.updateWindow w fun x => x.suspend c)
  /-- An enabled window that is not the position's is disabled, and its granules leave the dirty set (R7). -/
  | disable {s : State} (w : WinIdx) (hw : s.windows[w].enabled = true)
      (hp : ∀ p, s.sweep.position = some p → p.window ≠ w) :
      Move s ((s.updateWindow w fun x => { x with state := .off }).withDirty
        (removeRange s.windows[w].localBase s.windows[w].size s.dirty))
  /-- The sweep engine takes a position (R84). -/
  | choose {s : State} : Move s s.choosePosition
  /-- The sweep position moves to the next line with no read in flight (R86). -/
  | advance {s : State} (p : SweepPosition) (n : BitVec 10) (hp : s.sweep.position = some p)
      (hi : s.sweep.inFlight = none) :
      Move s (s.withSweep { s.sweep with position := some { p with nextLine := n } })
  /-- A sweep read goes on the idle port (R85). -/
  | read {s : State} (p : SweepPosition) (hp : s.sweep.position = some p) (hi : s.port.op = none) : Move s (s.grantSweep p)
  /-- The port becomes idle and no sweep read is in flight (R64, R86). -/
  | endRead {s : State} : Move s (s.idlePort.withSweep { s.sweep with inFlight := none })
  /-- The role and the link state change to a legal pair where no session stands, or one without a capturing window and
  without entries (R101, R155). -/
  | relink {s : State} (r : Role) (l : Link)
      (hq : s.inSession → (∀ w : WinIdx, s.windows[w].capturing = false) ∧ s.journal.entries = [])
      (hl : LinkLegal s → LinkLegal ((s.withRole r).withLink l))
      (hd : r = .sink ∨ r = .draining → s.role = .sink ∨ s.role = .draining ∨ s.dirty = []) :
      Move s ((s.withRole r).withLink l)

/-- A chain of moves. -/
abbrev Moves : State → State → Prop := Relation.ReflTransGen Move

theorem Move.moves {s t : State} (h : Move s t) : Moves s t := Relation.ReflTransGen.single h

/-- What every move keeps, a chain of them keeps. -/
theorem Moves.keeps {P : State → Prop} (hP : ∀ s t, Move s t → P s → P t) {s t : State} (h : Moves s t) (hs : P s) :
    P t := by
  induction h with
  | refl => exact hs
  | tail _ hm ih => exact hP _ _ hm ih

theorem moves_ite {c : Prop} [Decidable c] {s a b : State} (ha : c → Moves s a) (hb : ¬ c → Moves s b) :
    Moves s (if c then a else b) := by
  split
  · exact ha ‹_›
  · exact hb ‹_›

/-- A further chain of moves that is made only under a condition. -/
theorem moves_ite_self {c : Prop} [Decidable c] {s t u : State} (h : Moves s t) (hu : c → Moves t u) :
    Moves s (if c then u else t) :=
  moves_ite (fun hc => h.trans (hu hc)) fun _ => h

/-! ### The same tables -/

theorem SameTables.refl (s : State) : SameTables s s := ⟨rfl, rfl, rfl, rfl, rfl, Iff.rfl, fun e h => ⟨e, h, rfl, rfl⟩⟩

theorem SameTables.trans {s t u : State} (h : SameTables s t) (k : SameTables t u) : SameTables s u where
  role := k.role.trans h.role
  link := k.link.trans h.link
  windows := k.windows.trans h.windows
  dirty := k.dirty.trans h.dirty
  sweep := k.sweep.trans h.sweep
  port := k.port.trans h.port
  entries e he := by
    obtain ⟨x, hx, hk, hw⟩ := k.entries e he
    obtain ⟨y, hy, hk', hw'⟩ := h.entries x hx
    exact ⟨y, hy, hk'.trans hk, hw'.trans hw⟩

/-- The same tables, with the port and the journal as they were. -/
theorem SameTables.of_fields {s t : State} (hr : t.role = s.role) (hl : t.link.state = s.link.state)
    (hw : t.windows = s.windows) (hd : t.dirty = s.dirty) (hs : t.sweep = s.sweep) (hp : t.port = s.port)
    (hj : t.journal.entries = s.journal.entries) : SameTables s t :=
  ⟨hr, hl, hw, hd, hs, iff_of_eq (congrArg MemoryPort.sweeping hp), fun e he => ⟨e, hj ▸ he, rfl, rfl⟩⟩

theorem SameTables.moves {s t : State} (h : SameTables s t) : Moves s t := (Move.same h).moves

theorem withHost_tables (s : State) (x : HostPort) : SameTables s (s.withHost x) := { SameTables.refl s with }
theorem withSeq_tables (s : State) (x : Sequencer) : SameTables s (s.withSeq x) := { SameTables.refl s with }
theorem withRx_tables (s : State) (x : Receiver) : SameTables s (s.withRx x) := { SameTables.refl s with }
theorem withService_tables (s : State) (x : Service) : SameTables s (s.withService x) := { SameTables.refl s with }
theorem withTime_tables (s : State) (x : Time) : SameTables s (s.withTime x) := { SameTables.refl s with }
theorem withPending_tables (s : State) (x : List Instr) : SameTables s (s.withPending x) := { SameTables.refl s with }
theorem withFreeCount_tables (s : State) (x : Nat) : SameTables s (s.withFreeCount x) := { SameTables.refl s with }
theorem withPassedOver_tables (s : State) (n : Nat) : SameTables s (s.withPassedOver n) := { SameTables.refl s with }

theorem withLink_tables (s : State) (x : Link) (h : x.state = s.link.state) : SameTables s (s.withLink x) :=
  { SameTables.refl s with link := h }

theorem withPort_tables (s : State) (x : MemoryPort) (h : x.sweeping ↔ s.port.sweeping) : SameTables s (s.withPort x) :=
  { SameTables.refl s with port := h }

theorem withJournal_tables (s : State) (x : Journal)
    (h : ∀ e ∈ x.entries, ∃ y ∈ s.journal.entries, y.kind = e.kind ∧ y.window = e.window) :
    SameTables s (s.withJournal x) :=
  { SameTables.refl s with entries := h }

/-- Entries changed one by one, but for kind and window. -/
theorem mapEntries_tables (s : State) (f : JournalEntry → JournalEntry)
    (h : ∀ e, (f e).kind = e.kind ∧ (f e).window = e.window) :
    SameTables s (s.withEntries (s.journal.entries.map f)) := by
  refine withJournal_tables s _ fun e he => ?_
  obtain ⟨x, hx, rfl⟩ := List.mem_map.1 he
  exact ⟨x, hx, (h x).1.symm, (h x).2.symm⟩

theorem subsetEntries_tables (s : State) (l : List JournalEntry) (h : l ⊆ s.journal.entries) :
    SameTables s (s.withEntries l) :=
  withJournal_tables s _ fun e he => ⟨e, h he, rfl, rfl⟩

theorem raise_tables (s : State) (c : EventCause) : SameTables s (s.raise c) := { SameTables.refl s with }
theorem count_tables (s : State) (f : Stats → Stats) : SameTables s (s.count f) := { SameTables.refl s with }
theorem offerFault_tables (s : State) (k : FaultKind) (w : Option WinIdx) (l : Option Line) (q : Option Seq)
    (e : Option Epoch) : SameTables s (s.offerFault k w l q e) := { SameTables.refl s with }
theorem reply_tables (s : State) (echo code : Byte) (st : ServiceStatus) (r : Reason) (l : List Byte) :
    SameTables s (s.reply echo code st r l) := { SameTables.refl s with }
theorem replyDone_tables (s : State) (echo code : Byte) (l : List Byte) :
    SameTables s (s.replyDone echo code l) := { SameTables.refl s with }
theorem refuse_tables (s : State) (echo code : Byte) (r : Reason) : SameTables s (s.refuse echo code r) :=
  { SameTables.refl s with }
theorem answer_tables (s : State) (tag : Tag) (st : HostStatus) (d : Option ReadData) :
    SameTables s (s.answer tag st d) := { SameTables.refl s with }
theorem answerHeld_tables (s : State) (tag : Tag) (st : HostStatus) : SameTables s (s.answerHeld tag st) :=
  { SameTables.refl s with }

theorem answerTags_tables (s : State) (tags : List Tag) (st : HostStatus) : SameTables s (s.answerTags tags st) := by
  rw [answerTags_eq]; exact withHost_tables s _

theorem discard_tables (s : State) : SameTables s s.discard := by
  rw [discard_eq]
  exact (answerTags_tables s _ _).trans (subsetEntries_tables _ [] (List.nil_subset _))

/-- What `settle` leaves unchanged covers every table but the link state and the sweep position. -/
theorem SameTables.of_same {s t : State} (h : SameButSettled s t) (hl : t.link.state = s.link.state)
    (hp : t.sweep.position = s.sweep.position) : SameTables s t := by
  obtain ⟨-, -, hw, hop, -, hdirty, hi, -, -, -, -, -, -, -, -, -, -, -, -, hr, -, -, -, -, -, he⟩ := h
  refine ⟨hr, hl, hw, hdirty, ?_, ?_, ?_⟩
  · cases ht : t.sweep; cases hs : s.sweep; simp_all
  · unfold MemoryPort.sweeping; rw [hop]
  · intro e h
    have hm := List.mem_map_of_mem (f := fun e : JournalEntry => { e with sent := false, everSent := false }) h
    rw [he] at hm
    obtain ⟨x, hx, hxe⟩ := List.mem_map.1 hm
    injection hxe with _ hk hw
    exact ⟨x, hx, hk, hw⟩

/-! ### What comes about at once -/

theorem enterHail_moves (s : State) : Moves s s.enterHail := by
  unfold State.enterHail
  split
  · rename_i h
    obtain ⟨hdown, hrole, -, -⟩ := h
    refine (Move.relink s.role { s.link with state := .hail, epoch := _, lastHello := none, helloDue := true }
      (fun hs => ?_) (fun _ => ⟨nofun, fun _ => hrole⟩) (by tauto)).moves
    exact absurd (hdown.symm.trans hs.2) (by decide)
  · exact .refl

theorem settleWith_moves (s : State) (probe : Bool) : Moves s (s.settleWith probe) := by
  have hq : Moves s.enterHail (State.answerHeads s.enterHail.host.queue s.enterHail) := by
    rw [answerHeads_eq]; exact (withHost_tables _ _).moves
  have hf : ∀ u : State, Moves u (u.chooseFrame probe) := fun u =>
    (SameTables.of_same (chooseFrame_same u probe) (by rw [chooseFrame_eq]; rfl) (by rw [chooseFrame_eq]; rfl)).moves
  have ht : ∀ u : State, Moves u u.timeStall := fun u =>
    (SameTables.of_same (timeStall_same u) (by rw [timeStall_eq]; rfl) (by rw [timeStall_eq]; rfl)).moves
  have hc : ∀ u : State, Moves u u.clearPassedOver := fun u =>
    (SameTables.of_same (clearPassedOver_same u) (by rw [clearPassedOver_eq]; rfl)
      (by rw [clearPassedOver_eq]; rfl)).moves
  exact (enterHail_moves s).trans (hq.trans ((hf _).trans ((ht _).trans (Move.choose.moves.trans (hc _)))))

theorem settle_moves (s : State) : Moves s s.settle := settleWith_moves s false

end Sys2Proof.Machine
end

section
/-! The shared operations of the block as chains of moves. -/

namespace Sys2Proof.Machine

/-! ### Windows and the dirty set -/

theorem inSession_not_down {s : State} (h : s.link.state = .down) : ¬ s.inSession :=
  fun hs => absurd (h.symm.trans hs.2) (by decide)

theorem inSession_not_isolated {s : State} (h : s.role = .isolated) : ¬ s.inSession :=
  fun hs => absurd (h.symm.trans hs.1) (by decide)

theorem linkLegal_of_down {s : State} (h : s.link.state = .down) : LinkLegal s := by simp [LinkLegal, h]

theorem suspendWhere_fields (s : State) (p : Window → Bool) (cause : SuspendCause) :
    (s.suspendWhere p cause).role = s.role ∧ (s.suspendWhere p cause).link = s.link ∧
      (s.suspendWhere p cause).dirty = s.dirty ∧ (s.suspendWhere p cause).journal = s.journal ∧
      (s.suspendWhere p cause).port = s.port ∧ (s.suspendWhere p cause).seq = s.seq ∧
      (s.suspendWhere p cause).sweep =
        { position := none, inFlight := s.sweep.inFlight.map fun r => { r with current := false } } := by
  rw [suspendWhere_eq]
  exact ⟨rfl, rfl, rfl, rfl, rfl, rfl, rfl⟩

theorem suspendWhere_windows (s : State) (p : Window → Bool) (cause : SuspendCause) :
    (s.suspendWhere p cause).windows = (s.updateWindows fun w => if p w then w.suspend cause else w).windows := by
  unfold State.suspendWhere; split <;> rfl

theorem suspendWhere_moves (s : State) (p : Window → Bool) (cause : SuspendCause)
    (hp : ∀ w : Window, p w = true → w.enabled = true) : Moves s (s.suspendWhere p cause) := by
  have hv (w : WinIdx) : (s.suspendWhere p cause).windows[w] = s.windows[w] ∨
      s.windows[w].enabled = true ∧ ∃ c, (s.suspendWhere p cause).windows[w] = s.windows[w].suspend c := by
    rw [suspendWhere_get]
    split
    · rename_i h; exact .inr ⟨hp _ h, cause, rfl⟩
    · exact .inl rfl
  have hsuspend : Move s.dropPosition (s.dropPosition.withWindows (s.suspendWhere p cause).windows) :=
    .suspend _ hv nofun
  have hsame : SameTables (s.dropPosition.withWindows (s.suspendWhere p cause).windows) (s.suspendWhere p cause) := by
    obtain ⟨hrole, hlink, hdirty, hjournal, hport, -, hsweep⟩ := suspendWhere_fields s p cause
    exact .of_fields hrole (congrArg Link.state hlink) rfl hdirty hsweep hport (congrArg Journal.entries hjournal)
  exact Move.drop.moves.trans (hsuspend.moves.trans hsame.moves)

theorem dropPositionIn_moves (s : State) (w : WinIdx) : Moves s (s.dropPositionIn w) := by
  unfold State.dropPositionIn
  split
  · exact .refl
  · split
    · exact Move.drop.moves
    · exact .refl

theorem dropPositionIn_position {s : State} {w : WinIdx} {p : SweepPosition}
    (h : (s.dropPositionIn w).sweep.position = some p) : p.window ≠ w ∧ s.sweep.position = some p := by
  unfold State.dropPositionIn at h
  cases hs : s.sweep.position with
  | none => simp [hs] at h
  | some q =>
    simp only [hs] at h
    split at h
    · exact nomatch h
    · rename_i hq
      rw [hs] at h
      injection h with h
      exact ⟨h ▸ hq, congrArg some h⟩

/-- Dropping the position touches the sweep engine alone (R88). -/
theorem dropPositionIn_eq (s : State) (w : WinIdx) : s.dropPositionIn w = s.withSweep (s.dropPositionIn w).sweep := by
  unfold State.dropPositionIn
  split
  · rfl
  · split <;> rfl

theorem dropPositionIn_withWindows (s : State) (w : WinIdx) (x : Vector Window 16) :
    (s.withWindows x).dropPositionIn w = (s.dropPositionIn w).withWindows x := by
  unfold State.dropPositionIn
  rw [State.withWindows_sweep]
  split
  · rfl
  · split <;> rfl

theorem suspendWindow_moves (s : State) (w : WinIdx) (cause : SuspendCause) (hw : s.windows[w].enabled = true) :
    Moves s (s.suspendWindow w cause) := by
  have hwin : (s.dropPositionIn w).windows = s.windows := by rw [dropPositionIn_eq]; rfl
  have hget := updateWindow_get s w (f := fun x => x.suspend cause)
  have hsuspend : Move (s.dropPositionIn w)
      ((s.dropPositionIn w).withWindows (s.updateWindow w fun x => x.suspend cause).windows) := by
    refine .suspend _ (fun v => ?_) (fun p hp => ?_)
    · rw [hwin, hget]
      split
      · rename_i h; subst h; exact .inr ⟨hw, cause, rfl⟩
      · exact .inl rfl
    · rw [hwin, hget, if_neg (dropPositionIn_position hp).1]
  refine (dropPositionIn_moves s w).trans (hsuspend.moves.trans ?_)
  rw [← dropPositionIn_withWindows]
  unfold State.suspendWindow
  simp only
  split
  · exact (raise_tables _ _).moves
  · exact .refl

theorem markDirty_moves (s : State) (w : WinIdx) (g : Nat) (hr : s.role = .source ∨ s.role = .isolated)
    (hw : s.windows[w].state = .mirroring → ¬ s.inSession) : Moves s (s.markDirty w g) := by
  rw [markDirty_eq]
  refine (Move.mark _ hr (markDirty_sorted s w g) (fun a ha => (mem_markDirty s w g a).2 (.inl ha)) fun a ha => ?_).moves
  rcases (mem_markDirty s w g a).1 ha with h | ⟨rfl, he, hl⟩
  · exact .inl h
  · exact .inr ⟨w, he, hl, hw⟩

theorem markWindow_moves (s : State) (w : WinIdx) (hr : s.role = .source ∨ s.role = .isolated)
    (hw : s.windows[w].state = .mirroring → ¬ s.inSession) : Moves s (s.markWindow w) := by
  rw [markWindow_eq]
  refine (Move.mark _ hr (markWindow_sorted s w) (fun a ha => (mem_markWindow s w a).2 (.inl ha)) fun a ha => ?_).moves
  exact ((mem_markWindow s w a).1 ha).imp_right fun ⟨he, hl⟩ => ⟨w, he, hl, hw⟩

theorem markAll_moves (s : State) (hr : s.role = .source ∨ s.role = .isolated)
    (hw : ∀ w : WinIdx, s.windows[w].state = .mirroring → ¬ s.inSession) : Moves s s.markAll := by
  rw [markAll_eq]
  refine (Move.mark _ hr (markAll_sorted s) (fun a ha => (mem_markAll s a).2 (.inl ha)) fun a ha => ?_).moves
  exact ((mem_markAll s a).1 ha).imp_right fun ⟨w, he, hl⟩ => ⟨w, he, hl, hw w⟩

theorem convert_sorted (s : State) (h : s.dirty.Pairwise (· < ·)) : s.convert.dirty.Pairwise (· < ·) := by
  have hfold : ∀ (l : List JournalEntry) (t : State), t.dirty.Pairwise (· < ·) →
      (l.foldl State.convertEntry t).dirty.Pairwise (· < ·) := by
    intro l
    induction l with
    | nil => exact fun _ ht => ht
    | cons e l ih =>
      intro t ht
      refine ih _ ?_
      unfold State.convertEntry
      rw [answerTags_eq]
      exact markDirty_sorted t _ _ ht
  exact hfold _ s h

/-- Conversion, asked for on a SOURCE whose windows do not mirror in session (R38). -/
theorem convert_moves (s : State) (hr : s.role = .source)
    (hw : ∀ w : WinIdx, s.windows[w].state = .mirroring → ¬ s.inSession) : Moves s s.convert := by
  have hd := discard_tables s
  refine hd.moves.trans ?_
  rw [convert_eq]
  refine (Move.mark _ (.inl (hd.role.trans hr)) ?_ ?_ fun g hg => ?_).moves
  · rw [hd.dirty]; exact convert_sorted s
  · rw [hd.dirty]; exact fun g hg => (mem_convert s g).2 (.inl hg)
  · have hs : s.discard.inSession ↔ s.inSession := by unfold State.inSession; rw [hd.role, hd.link]
    rw [hd.dirty, hd.windows, hs]
    exact ((mem_convert s g).1 hg).imp_right fun ⟨e, _, he, hen, hl⟩ => ⟨e.window, hen, hl, hw e.window⟩

/-- What marking every window adds is read from the windows and the dirty set (R79). -/
theorem markAll_dirty_congr {s t : State} (hw : t.windows = s.windows) (hd : t.dirty = s.dirty) :
    t.markAll.dirty = s.markAll.dirty := by
  have hfold : ∀ (l : List WinIdx) (s t : State), t.windows = s.windows → t.dirty = s.dirty →
      (l.foldl State.markWindow t).dirty = (l.foldl State.markWindow s).dirty := by
    intro l
    induction l with
    | nil => exact fun _ _ _ hd => hd
    | cons w l ih =>
      intro s t hw hd
      refine ih _ _ ?_ ?_
      · rw [markWindow_eq t, markWindow_eq s]; exact hw
      · unfold State.markWindow
        rw [hw, hd]
        split
        · rfl
        · exact hd
  exact hfold allWindows s t hw hd

theorem convertEntry_fields (s : State) (e : JournalEntry) :
    (s.convertEntry e).windows = s.windows ∧
      (s.convertEntry e).dirty = (s.markDirty e.window e.localLine.granule).dirty := by
  unfold State.convertEntry
  rw [answerTags_eq, markDirty_eq]
  exact ⟨rfl, rfl⟩

/-- What conversion marks is read from the windows, the dirty set and the entries (R38). -/
theorem convert_dirty_congr {s t : State} (hw : t.windows = s.windows) (hd : t.dirty = s.dirty)
    (he : t.journal.entries = s.journal.entries) : t.convert.dirty = s.convert.dirty := by
  have hfold : ∀ (l : List JournalEntry) (s t : State), t.windows = s.windows → t.dirty = s.dirty →
      (l.foldl State.convertEntry t).dirty = (l.foldl State.convertEntry s).dirty := by
    intro l
    induction l with
    | nil => exact fun _ _ _ hd => hd
    | cons e l ih =>
      intro s t hw hd
      refine ih _ _ ?_ ?_
      · rw [(convertEntry_fields t e).1, (convertEntry_fields s e).1, hw]
      · rw [(convertEntry_fields t e).2, (convertEntry_fields s e).2]
        unfold State.markDirty
        rw [hw, hd]
        split
        · rfl
        · exact hd
  unfold State.convert
  rw [he]
  exact hfold _ s t hw hd

theorem suspendWhere_capturing_none (s : State) (cause : SuspendCause) (w : WinIdx) :
    (s.suspendWhere Window.capturing cause).windows[w].capturing = false := by
  rw [suspendWhere_get]
  split
  · rfl
  · rename_i h; simpa using h

theorem not_mirroring_of_not_capturing {w : Window} (h : w.capturing = false) : w.state ≠ .mirroring := by
  intro hm; simp [Window.capturing, hm] at h

/-! ### The link -/

/-- The link leaves its state outside a session, or one that has ended (R95, R110, R111). -/
theorem leaveLink_moves (s : State)
    (hq : s.inSession → (∀ w : WinIdx, s.windows[w].capturing = false) ∧ s.journal.entries = []) :
    Moves s s.leaveLink :=
  (Move.relink s.role { s.link with state := .down, lastReceipt := none, lastHello := none, helloDue := false } hq
    (fun _ => linkLegal_of_down rfl) (by tauto)).moves

/-- The link takes another legal state without ending a session. -/
theorem relink_moves (s : State) (l : Link) (hs : s.link.state ≠ .up) (hl : LinkLegal (s.withLink l)) :
    Moves s (s.withLink l) :=
  (Move.relink s.role l (fun h => absurd h.2 hs) (fun _ => hl) (by tauto)).moves

theorem convert_fields (s : State) :
    s.convert.windows = s.windows ∧ s.convert.sweep = s.sweep ∧ s.convert.link = s.link ∧ s.convert.role = s.role ∧
      s.convert.port = s.port ∧ s.convert.seq = s.seq ∧ s.convert.service = s.service := by
  rw [convert_eq, discard_eq, answerTags_eq]
  exact ⟨rfl, rfl, rfl, rfl, rfl, rfl, rfl⟩

theorem suspendWhere_windows_congr {s t : State} (h : t.windows = s.windows) (p : Window → Bool) (cause : SuspendCause) :
    (t.suspendWhere p cause).windows = (s.suspendWhere p cause).windows := by
  rw [suspendWhere_windows, suspendWhere_windows]
  simp [State.updateWindows, h]

/-- Link loss on a SOURCE: the windows are suspended, the journal is converted, and then the link is DOWN with neither a
capturing window nor an entry (R13, R38, R110). -/
theorem linkLoss_source_moves (s : State) (cause : SuspendCause) (hr : s.role = .source) :
    Moves s ((s.leaveLink.raise .linkDown).sourceLoss cause) := by
  obtain ⟨hrole, -, hdirty, hjournal, hport, -, hsweep⟩ := suspendWhere_fields s Window.capturing cause
  have hnone := suspendWhere_capturing_none s cause
  have hwin := suspendWhere_windows_congr (s := s) (t := s.leaveLink.raise .linkDown) rfl Window.capturing cause
  have hconv := convert_moves (s.suspendWhere Window.capturing cause) (hrole.trans hr)
    fun w hm => absurd hm (not_mirroring_of_not_capturing (hnone w))
  have hleave := leaveLink_moves (s.suspendWhere Window.capturing cause).convert fun _ =>
    ⟨by rw [(convert_fields _).1]; exact hnone, convert_entries _⟩
  refine (suspendWhere_moves s _ cause fun _ => enabled_of_capturing).trans (hconv.trans (hleave.trans ?_))
  obtain ⟨hcw, hcs, hcl, hcr, hcp, -, -⟩ := convert_fields (s.suspendWhere Window.capturing cause)
  obtain ⟨hdw, hds, hdl, hdr, hdp, -, -⟩ := convert_fields ((s.leaveLink.raise .linkDown).suspendWhere Window.capturing cause)
  obtain ⟨hrole', hlink', hdirty', hjournal', hport', -, hsweep'⟩ :=
    suspendWhere_fields (s.leaveLink.raise .linkDown) Window.capturing cause
  refine SameTables.moves ⟨?_, ?_, ?_, ?_, ?_, ?_, nofun⟩
  · exact (hdr.trans hrole').trans (hcr.trans hrole).symm
  · have hl := congrArg Link.state (hdl.trans hlink')
    exact hl
  · exact (hdw.trans hwin).trans hcw.symm
  · exact convert_dirty_congr hwin (hdirty'.trans hdirty.symm) (congrArg Journal.entries (hjournal'.trans hjournal.symm))
  · exact (hds.trans hsweep').trans (hcs.trans hsweep).symm
  · exact iff_of_eq (congrArg MemoryPort.sweeping ((hdp.trans hport').trans (hcp.trans hport).symm))

/-- Link loss in every role (R110). -/
theorem linkLoss_moves (s : State) (cause : SuspendCause) : Moves s (s.linkLoss cause) := by
  unfold State.linkLoss
  split
  · have hleave (hr : s.role ≠ .source) : Moves s (s.leaveLink.raise .linkDown) :=
      (leaveLink_moves s fun hs => absurd hs.1 hr).trans (raise_tables _ _).moves
    simp only
    cases hr : s.role with
    | source => exact linkLoss_source_moves s cause hr
    | sink => exact (hleave (by simp [hr])).trans (withRx_tables _ _).moves
    | isolated => exact hleave (by simp [hr])
    | draining => exact hleave (by simp [hr])
  · exact .refl

theorem linkUp_moves (s : State) (hl : s.link.state = .hail) (hr : s.role = .source ∨ s.role = .sink) :
    Moves s s.linkUp := by
  have hup : Moves s (s.withLink
      { s.link with state := .up, lastReceipt := some s.time, lastHello := none, helloDue := false }) :=
    relink_moves s _ (by simp [hl]) ⟨nofun, fun _ => hr⟩
  refine hup.trans ?_
  unfold State.linkUp
  simp only
  split
  · exact (SameTables.trans (raise_tables _ .linkUp) (withSeq_tables _ _)).moves
  · exact (raise_tables _ .linkUp).moves

theorem enterClash_moves (s : State) (e : Epoch) (hl : s.link.state = .hail) (hr : s.role = .source) :
    Moves s (s.enterClash e) := by
  have hclash : Moves s (s.withLink
      { s.link with state := .clash, lastReceipt := none, lastHello := none, helloDue := false }) :=
    relink_moves s _ (by simp [hl]) ⟨fun _ => hr, nofun⟩
  exact hclash.trans ((raise_tables _ .clash).trans (offerFault_tables _ _ _ _ _ _)).moves

theorem adopt_moves (s : State) (e : Epoch) (b : Seq) (hl : s.link.state = .hail) (hr : s.role = .sink) :
    Moves s (s.adopt e b) := by
  have hrx := ((withLink_tables s { s.link with epoch := e } rfl).trans
    (withRx_tables _
      { s.rx with
        expected := b, lastApplied := b - 1, applyFaults := 0, nakOutstanding := false, nakSlot := none
        ackPending := false })).moves
  exact hrx.trans (Relation.ReflTransGen.trans (linkUp_moves _ hl (.inr hr)) (withRx_tables _ _).moves)

theorem hailHello_moves (s : State) (h : Hello) (hl : s.link.state = .hail) : Moves s (s.hailHello h) := by
  unfold State.hailHello
  split
  · split
    · rename_i hr _; exact linkUp_moves s hl (.inl hr)
    · exact .refl
  · exact enterClash_moves s _ hl ‹_›
  · split
    · rename_i hr _; exact adopt_moves s _ _ hl hr
    · exact .refl
  all_goals exact .refl

/-! ### The journal -/

/-- A captured write merges into the tail or joins the journal (R26, R27). -/
theorem capture_moves (s : State) (w : WinIdx) (line : Line) (mask : Mask) (data : LineData) (poisoned : Bool)
    (hw : s.windows[w].capturing = true) : Moves s (s.capture w line mask data poisoned) := by
  unfold State.capture
  split
  · refine (withJournal_tables s _ fun e he => ?_).moves
    obtain ⟨i, hi, rfl⟩ := List.mem_iff_getElem.1 he
    simp only [List.length_modify] at hi
    refine ⟨s.journal.entries[i], List.getElem_mem hi, ?_⟩
    simp only [List.getElem_modify]
    split <;> exact ⟨rfl, rfl⟩
  · refine (Move.append _ ⟨w, hw⟩ fun h => ?_).moves
    simp only at h
    split at h <;> exact nomatch h

theorem acknowledgeEntry_moves (s : State) (e : JournalEntry) : Moves s (s.acknowledgeEntry e) := by
  unfold State.acknowledgeEntry
  exact (moves_ite_self (moves_ite_self (answerTags_tables s _ _).moves
    fun _ => ((withSeq_tables _ _).trans (raise_tables _ _)).moves) fun _ => (Move.test _).moves).trans
    (count_tables _ _).moves

theorem acknowledge_moves (n : Nat) (s : State) : Moves s (State.acknowledge n s) := by
  induction n generalizing s with
  | zero => exact .refl
  | succ n ih =>
    unfold State.acknowledge
    split
    · exact .refl
    · rename_i e rest he
      have hrest : Moves s (s.withEntries rest) :=
        (subsetEntries_tables s rest (by rw [he]; exact List.subset_cons_self _ _)).moves
      exact hrest.trans ((acknowledgeEntry_moves _ e).trans (ih _))

theorem acknowledgeEntry_role (s : State) (e : JournalEntry) : (s.acknowledgeEntry e).role = s.role := by
  have ht : ∀ (u : State) (w : WinIdx), (u.sweepTest w).role = u.role := by
    intro u w; unfold State.sweepTest; split <;> rfl
  unfold State.acknowledgeEntry State.count
  simp only [State.withService_role]
  split <;> split <;> simp [ht, State.raise, answerTags_eq]

theorem acknowledge_role (n : Nat) (s : State) : (State.acknowledge n s).role = s.role := by
  induction n generalizing s with
  | zero => rfl
  | succ n ih =>
    unfold State.acknowledge
    split
    · rfl
    · rw [ih, acknowledgeEntry_role]; rfl

/-! ### The apply engine -/

theorem finishEntry_tables (s : State) (e : ApplyEntry) (how : Finish) : SameTables s (s.finishEntry e how) := by
  rw [finishEntry_eq]
  exact (withRx_tables s _).trans (withService_tables _ _)

theorem examineFrom_tables (l : List ApplyEntry) (s : State) : SameTables s (State.examineFrom l s) := by
  induction l generalizing s with
  | nil => exact .refl s
  | cons e l ih =>
    unfold State.examineFrom
    repeat' split
    · exact .refl s
    · exact (finishEntry_tables s e _).trans (ih _)
    · exact .refl s
    · exact (finishEntry_tables s e _).trans (ih _)

theorem examine_tables (s : State) : SameTables s s.examine := examineFrom_tables _ s

/-! ### Role changes and the warm reset -/

theorem KeptAside.role_eq {s t : State} (h : KeptAside s t) : t.role = s.role := by
  obtain ⟨-, -, -, -, -, -, -, -, -, -, -, hr, -⟩ := h
  exact hr

/-- Link loss leaves UP for DOWN (R110). -/
theorem linkLoss_down (s : State) (cause : SuspendCause) (h : s.link.state = .up) :
    (s.linkLoss cause).link.state = .down := by
  unfold State.linkLoss
  rw [if_pos h]
  simp only
  split
  · have hl := (convert_fields ((s.leaveLink.raise .linkDown).suspendWhere Window.capturing cause)).2.2.1.trans
      (suspendWhere_fields _ _ _).2.1
    exact congrArg Link.state hl
  all_goals rfl

/-- The link part of a role change ends in DOWN under the old role (R155). -/
theorem roleLink_down (s : State) (new : Role) :
    (s.roleLink new).link.state = .down ∧ (s.roleLink new).role = s.role := by
  have hconv : ∀ t : State, t.link.state = .down ∧ t.role = s.role →
      (if s.role = .source ∧ new = .isolated then t.convert else t).link.state = .down ∧
        (if s.role = .source ∧ new = .isolated then t.convert else t).role = s.role := by
    rintro t ⟨hl, hr⟩
    obtain ⟨-, -, hcl, hcr, -⟩ := convert_fields t
    split
    · exact ⟨(congrArg Link.state hcl).trans hl, hcr.trans hr⟩
    · exact ⟨hl, hr⟩
  refine hconv _ ?_
  split
  · exact ⟨linkLoss_down s _ ‹_›, (linkLoss_kept s _).role_eq⟩
  · exact ⟨rfl, rfl⟩
  · exact ⟨rfl, rfl⟩
  · exact ⟨‹_›, rfl⟩

theorem roleLink_moves (s : State) (new : Role) : Moves s (s.roleLink new) := by
  have hconv : ∀ t : State, Moves s t → t.link.state = .down → t.role = s.role →
      Moves s (if s.role = .source ∧ new = .isolated then t.convert else t) := fun t ht hl hr =>
    moves_ite_self ht fun hc => convert_moves t (hr.trans hc.1) fun _ _ => inSession_not_down hl
  have hleave (hl : s.link.state ≠ .up) : Moves s s.leaveLink := leaveLink_moves s fun hs => absurd hs.2 hl
  unfold State.roleLink
  cases h : s.link.state with
  | up => exact hconv _ (linkLoss_moves s .role) (linkLoss_down s _ h) (linkLoss_kept s _).role_eq
  | hail => exact hconv _ (hleave (by simp [h])) rfl rfl
  | clash => exact hconv _ (hleave (by simp [h])) rfl rfl
  | down => exact hconv s .refl h rfl

/-- A change to SINK: every enabled window suspended, the dirty set emptied, and then the role (R17, R79, R155). -/
theorem roleSink_moves (u : State) (old : Role) (hl : u.link.state = .down) :
    Moves u (((u.withRole .sink).roleWindows old .sink).roleDirty old .sink) := by
  obtain ⟨hrole, hlink, hdirty, hjournal, hport, -, hsweep⟩ := suspendWhere_fields u Window.enabled .role
  obtain ⟨hrole', hlink', hdirty', hjournal', hport', -, hsweep'⟩ :=
    suspendWhere_fields (u.withRole .sink) Window.enabled .role
  have hwin := suspendWhere_windows_congr (s := u) (t := u.withRole .sink) rfl Window.enabled .role
  have hclean : Move (u.suspendWhere Window.enabled .role) ((u.suspendWhere Window.enabled .role).withDirty []) :=
    .clean [] (List.nil_sublist _) (by rw [hsweep])
  have hlink'' : ((u.suspendWhere Window.enabled .role).withDirty []).link.state = .down :=
    (congrArg Link.state hlink).trans hl
  have hrelink : Move ((u.suspendWhere Window.enabled .role).withDirty [])
      (((u.suspendWhere Window.enabled .role).withDirty []).withRole .sink) :=
    .relink .sink ((u.suspendWhere Window.enabled .role).withDirty []).link
      (fun hs => absurd hs (inSession_not_down hlink''))
      (fun _ => linkLegal_of_down hlink'')
      (fun _ => .inr (.inr rfl))
  refine (suspendWhere_moves u _ _ fun _ h => h).trans (hclean.moves.trans (hrelink.moves.trans (SameTables.moves ?_)))
  exact .of_fields hrole' (congrArg Link.state (hlink'.trans hlink.symm)) hwin rfl (hsweep'.trans hsweep.symm)
    (hport'.trans hport.symm) (congrArg Journal.entries (hjournal'.trans hjournal.symm))

/-- A change to another role than SINK, with the link DOWN (R17, R79, R155). -/
theorem roleOther_moves (u : State) (new : Role) (hl : u.link.state = .down) (hsink : new ≠ .sink)
    (hdrain : new = .draining → u.role = .sink) :
    Moves u (((u.withRole new).roleWindows u.role new).roleDirty u.role new) := by
  have hrole : Moves u (u.withRole new) :=
    (Move.relink new u.link (fun hs => absurd hs (inSession_not_down hl)) (fun _ => linkLegal_of_down hl)
      (by tauto)).moves
  have hwin : Moves (u.withRole new) ((u.withRole new).roleWindows u.role new) := by
    unfold State.roleWindows
    rw [if_neg hsink]
    exact moves_ite_self .refl fun _ => suspendWhere_moves _ _ _ fun _ => enabled_of_capturing
  have hkept : ((u.withRole new).roleWindows u.role new).role = new ∧
      ((u.withRole new).roleWindows u.role new).link.state = .down := by
    unfold State.roleWindows
    rw [if_neg hsink]
    obtain ⟨hr, hlk, -⟩ := suspendWhere_fields (u.withRole new) Window.capturing .role
    split
    · exact ⟨hr, (congrArg Link.state hlk).trans hl⟩
    · exact ⟨rfl, hl⟩
  refine hrole.trans (hwin.trans ?_)
  unfold State.roleDirty
  rw [if_neg hsink]
  refine moves_ite_self .refl fun hc => markAll_moves _ ?_ fun _ _ => inSession_not_down hkept.2
  rw [hkept.1]
  cases new with
  | isolated => exact .inr rfl
  | source => exact .inl rfl
  | sink => exact absurd rfl hsink
  | draining => simp [hdrain rfl] at hc

theorem changeRole_moves (s : State) (new : Role) (hdrain : new = .draining → s.role = .sink) :
    Moves s (s.changeRole new) := by
  obtain ⟨hdown, hrole⟩ := roleLink_down s new
  have hmid : Moves (s.roleLink new)
      ((((s.roleLink new).withRole new).roleWindows s.role new).roleDirty s.role new) := by
    by_cases hsink : new = .sink
    · subst hsink; exact roleSink_moves _ s.role hdown
    · have h := roleOther_moves (s.roleLink new) new hdown hsink (by rwa [hrole])
      rwa [hrole] at h
  exact (roleLink_moves s new).trans (hmid.trans ((withService_tables _ _).moves.trans (settle_moves _)))

theorem drainCheck_moves (s : State) : Moves s s.drainCheck := by
  unfold State.drainCheck State.endDrain
  exact moves_ite_self .refl fun _ => (changeRole_moves s .source nofun).trans (raise_tables _ _).moves

/-- The window table at a warm reset (R18). -/
def State.restartWindows (s : State) : State := s.updateWindows fun w => if w.enabled then w.suspend .restart else w

/-- Every block after the effects of a warm reset (R181). -/
theorem warmBlocks_eq (s : State) :
    s.warmBlocks =
      { s with
        host := s.discard.host
        windows := s.restartWindows.windows
        port := { op := s.port.op.map Operation.overtake, passedOver := 0 }
        journal := { s.journal with entries := [], stallStart := none }
        dirty := s.restartWindows.markAll.dirty
        sweep := { position := none, inFlight := s.sweep.inFlight.map fun r => { r with current := false } }
        link := s.link.warm
        seq := Sequencer.warm
        rx := s.rx.warm
        role := .isolated
        service := { s.service with override := false } } := by
  obtain ⟨host, hdiscard⟩ : ∃ host, s.discard = { s with host := host, journal := { s.journal with entries := [] } } :=
    ⟨_, by rw [discard_eq, answerTags_eq]; rfl⟩
  have hmark : ∀ t : State, t.windows = s.windows → t.dirty = s.dirty →
      (t.updateWindows fun w => if w.enabled then w.suspend .restart else w).markAll =
        (t.withWindows s.restartWindows.windows).withDirty s.restartWindows.markAll.dirty := by
    intro t hw hd
    have hwin : (t.updateWindows fun w => if w.enabled then w.suspend .restart else w) =
        t.withWindows s.restartWindows.windows := by
      unfold State.restartWindows State.updateWindows; rw [hw]; rfl
    rw [hwin, markAll_eq, markAll_dirty_congr (s := s.restartWindows)
      (t := t.withWindows s.restartWindows.windows) rfl hd]
  unfold State.warmBlocks
  rw [hdiscard]
  simp only
  rw [hmark]
  · generalize s.restartWindows.markAll.dirty = d
    generalize s.restartWindows.windows = v
    rfl
  · rfl
  · rfl

theorem overtake_sweeping (o : Option Operation) (n m : Nat) :
    MemoryPort.sweeping { op := o.map Operation.overtake, passedOver := n } ↔
      MemoryPort.sweeping { op := o, passedOver := m } := by
  rcases o with _ | ⟨line, access, owner⟩
  · rfl
  · cases owner <;> rfl

/-- The warm reset: the journal is discarded, every enabled window suspended, the unit ISOLATED with the link DOWN, and then
every granule of an enabled window marked (R18, R181). -/
theorem warmReset_moves (s : State) : Moves s s.warmReset := by
  obtain ⟨hrole, -, hdirty, hjournal, hport, -, hsweep⟩ := suspendWhere_fields s.discard Window.enabled .restart
  have hd := discard_tables s
  have hwin : (s.discard.suspendWhere Window.enabled .restart).windows = s.restartWindows.windows :=
    (suspendWhere_windows_congr hd.windows Window.enabled .restart).trans (suspendWhere_windows s _ _)
  have hnone (w : WinIdx) : (s.discard.suspendWhere Window.enabled .restart).windows[w].capturing = false := by
    rw [suspendWhere_get]
    split
    · rfl
    · rename_i h; exact Bool.eq_false_iff.2 fun hc => h (enabled_of_capturing hc)
  have hrelink : Move (s.discard.suspendWhere Window.enabled .restart)
      (((s.discard.suspendWhere Window.enabled .restart).withRole .isolated).withLink s.link.warm) :=
    .relink _ _ (fun _ => ⟨hnone, congrArg Journal.entries hjournal⟩) (fun _ => linkLegal_of_down rfl)
      (by rintro (h | h) <;> exact nomatch h)
  have hmark : Move (((s.discard.suspendWhere Window.enabled .restart).withRole .isolated).withLink s.link.warm)
      ((((s.discard.suspendWhere Window.enabled .restart).withRole .isolated).withLink s.link.warm).withDirty
        s.restartWindows.markAll.dirty) := by
    have hdirty' := hdirty.trans hd.dirty
    refine .mark _ (.inr rfl) (fun h => markAll_sorted _ (hdirty' ▸ h))
      (fun g hg => (mem_markAll _ g).2 (.inl (hdirty' ▸ hg))) fun g hg => ?_
    rw [State.withLink_windows, State.withRole_windows, hwin]
    exact ((mem_markAll _ g).1 hg).imp (fun h => hdirty' ▸ h)
      fun ⟨w, hen, hl⟩ => ⟨w, hen, hl, fun _ hs => absurd hs.1 (by simp)⟩
  have hblocks : SameTables
      ((((s.discard.suspendWhere Window.enabled .restart).withRole .isolated).withLink s.link.warm).withDirty
        s.restartWindows.markAll.dirty) s.warmBlocks := by
    rw [warmBlocks_eq]
    generalize s.restartWindows.markAll.dirty = d
    refine ⟨rfl, rfl, ?_, rfl, ?_, ?_, by simp⟩
    · rw [State.withDirty_windows, State.withLink_windows, State.withRole_windows, hwin]
    · rw [State.withDirty_sweep, State.withLink_sweep, State.withRole_sweep, hsweep, hd.sweep]
    · rw [State.withDirty_port, State.withLink_port, State.withRole_port, hport]
      exact (overtake_sweeping _ _ _).trans hd.port.symm
  exact (discard_tables s).moves.trans ((suspendWhere_moves _ _ _ fun _ h => h).trans (hrelink.moves.trans
    (hmark.moves.trans (hblocks.moves.trans ((settle_moves _).trans (withService_tables _ _).moves)))))

/-! ### What is due at once -/

theorem examineNow_moves (s : State) : Moves s s.examineNow :=
  moves_ite_self .refl fun _ => (examine_tables s).moves.trans ((drainCheck_moves _).trans (settle_moves _))

theorem examineAll_moves (n : Nat) (s : State) : Moves s (State.examineAll n s) := by
  induction n generalizing s with
  | zero => exact .refl
  | succ n ih => exact moves_ite_self .refl fun _ => (examineNow_moves s).trans (ih _)

/-- What the class of a host write says of its owning window (R9). -/
theorem classify_track {s : State} {line : Line} {w : WinIdx} (h : s.classify line = .track w) :
    (s.role = .source ∨ s.role = .isolated) ∧ (s.windows[w].state = .mirroring → ¬ s.inSession) := by
  unfold State.classify at h
  split at h
  · exact nomatch h
  · split at h
    · rename_i hr
      split at h
      · exact nomatch h
      · rename_i v _ _ hc
        injection h with h
        subst h
        exact ⟨.inl hr, fun hm => absurd hm (not_mirroring_of_not_capturing (by simpa using hc))⟩
    · rename_i hr
      exact ⟨.inr hr, fun _ => inSession_not_isolated hr⟩
    all_goals split at h <;> exact nomatch h

theorem classify_capture {s : State} {line : Line} {w : WinIdx} (h : s.classify line = .capture w) :
    s.role = .source ∧ s.owner line.granule = some w ∧ s.windows[w].capturing = true := by
  unfold State.classify at h
  split at h
  · exact nomatch h
  · split at h
    · split at h
      · injection h with h
        subst h
        exact ⟨‹_›, ‹_›, ‹_›⟩
      · exact nomatch h
    · exact nomatch h
    all_goals split at h <;> exact nomatch h

theorem sweeping_idle {s : State} (h : s.port.op = none) : ¬ s.port.sweeping := by
  simp [MemoryPort.sweeping, h]

/-- An operation other than a sweep read goes on the idle port. -/
theorem putOnPort_tables (s : State) (line : Line) (access : Access) (owner : Owner) (h : s.port.op = none)
    (ho : ∀ w d, owner ≠ .sweep w d) : SameTables s (s.putOnPort line access owner) := by
  refine withPort_tables s _ ⟨fun hs => ?_, fun hs => absurd hs (sweeping_idle h)⟩
  unfold MemoryPort.sweeping at hs
  cases owner with
  | sweep w d => exact absurd rfl (ho w d)
  | host tag grant => exact hs.elim
  | apply e w d => exact hs.elim

theorem grantHost_moves (s : State) (r : QueuedRequest) (rest : List QueuedRequest) (hop : s.port.op = none) :
    Moves s (s.grantHost r rest) := by
  have hput : ∀ (t : State) (access : Access) (tag : Option Tag) (grant : HostGrant), Moves s t → t.port = s.port →
      Moves s (t.putOnPort r.line access (.host tag grant)) := fun t access tag grant ht hp =>
    ht.trans (putOnPort_tables t r.line access _ (by rw [hp, hop]) (by simp)).moves
  have htake : Moves s ((s.withHost { s.host with queue := rest }).withJournal { s.journal with stallStart := none }) :=
    SameTables.moves { SameTables.refl s with }
  unfold State.grantHost
  simp only
  split
  · exact hput _ _ _ _ htake rfl
  · split
    · exact hput _ _ _ _ htake rfl
    · exact hput _ _ _ _ htake rfl
    · rename_i w hc
      obtain ⟨hr, hw⟩ := classify_track hc
      exact hput _ _ _ _ (htake.trans (markDirty_moves _ w _ hr hw)) (by rw [markDirty_eq]; rfl)
    · rename_i w hc
      obtain ⟨-, -, hw⟩ := classify_capture hc
      refine hput _ _ _ _ (htake.trans (capture_moves _ w _ _ _ _ hw)) ?_
      unfold State.capture
      split <;> rfl

theorem classifyApply_moves (s : State) (line : Line) : Moves s (s.classifyApply line) := by
  unfold State.classifyApply
  refine moves_ite (fun hr => ?_) fun _ => .refl
  split
  · exact .refl
  · rename_i w ho
    refine moves_ite (fun _ => ?_) fun hc => ?_
    · refine (suspendWindow_moves s w .role (owner_some ho).1).trans (markDirty_moves _ w _ ?_ fun hm => ?_)
      · rw [suspendWindow_eq]; exact hr
      · rw [suspendWindow_eq] at hm
        simp at hm
    · exact markDirty_moves s w _ hr fun hm => absurd hm (not_mirroring_of_not_capturing (by simpa using hc))

theorem grantApply_moves (s : State) (e : ApplyEntry) (hop : s.port.op = none) : Moves s (s.grantApply e) := by
  refine (classifyApply_moves s e.target).trans (putOnPort_tables _ _ _ _ ?_ (by simp)).moves
  unfold State.classifyApply
  split
  · split
    · exact hop
    · split
      · rw [markDirty_eq, suspendWindow_eq]; exact hop
      · rw [markDirty_eq]; exact hop
  · exact hop

theorem grantTo_moves (s : State) (g : Grantee) (hop : s.port.op = none) : Moves s (s.grantTo g) := by
  cases g with
  | host =>
    unfold State.grantTo
    simp only
    split
    · exact .refl
    · exact grantHost_moves s _ _ hop
  | sweep =>
    unfold State.grantTo
    simp only
    split
    · exact .refl
    · exact (Move.read _ ‹_› hop).moves
  | apply =>
    unfold State.grantTo
    simp only
    split
    · exact .refl
    · exact grantApply_moves s _ hop

theorem grantNow_moves (s : State) : Moves s s.grantNow := by
  unfold State.grantNow
  refine moves_ite (fun _ => .refl) fun hop => ?_
  split
  · exact .refl
  · exact (grantTo_moves s _ (by simpa using hop)).trans ((withPassedOver_tables _ _).moves.trans (settle_moves _))

theorem prompt_moves (s : State) : Moves s s.prompt :=
  moves_ite (fun _ => .refl) fun _ => (examineAll_moves _ s).trans (grantNow_moves _)

theorem take_moves (s : State) (f : State → State) (hf : ∀ u, Moves u (f u)) : Moves s (s.take f) :=
  moves_ite (fun _ => .refl) fun _ => (prompt_moves s).trans (hf _)

theorem takeCommand_moves (s : State) (echo code : Byte) (args : List Byte) (f : State → State)
    (hf : ∀ u, Moves u (f u)) : Moves s (s.takeCommand echo code args f) :=
  take_moves s _ fun u => moves_ite (fun _ => hf u) fun _ => (refuse_tables u _ _ _).moves

end Sys2Proof.Machine
end

section
/-! Every command as a chain of moves, and with that every step. -/

namespace Sys2Proof.Machine

/-! ### Completions -/

theorem answerPort_tables (s : State) (tag : Option Tag) (st : HostStatus) (d : Option ReadData) :
    SameTables s (s.answerPort tag st d) := by
  unfold State.answerPort
  split
  · exact .refl s
  · exact answer_tables s _ _ _

theorem closeEntry_tables (s : State) (seq : Seq) (ok : Bool) (tag : Option Tag) :
    SameTables s (s.closeEntry seq ok tag) :=
  mapEntries_tables s _ fun e => by split <;> exact ⟨rfl, rfl⟩

theorem completeCapture_tables (s : State) (tag : Option Tag) (cls : CommitClass) (seq : Seq) (poisoned : Bool)
    (c : Completion) : SameTables s (s.completeCapture tag cls seq poisoned c) := by
  unfold State.completeCapture
  split
  · split
    · exact closeEntry_tables s _ _ _
    · split
      · exact (closeEntry_tables s _ _ _).trans (withHost_tables _ _)
      · exact answer_tables s _ _ _
  · exact (closeEntry_tables s _ _ _).trans (answerPort_tables _ _ _ _)

theorem completeHost_tables (s : State) (o : Operation) (tag : Option Tag) (grant : HostGrant) (c : Completion) :
    SameTables s (s.completeHost o tag grant c) := by
  unfold State.completeHost State.completeRead
  split
  · split <;> exact answerPort_tables s _ _ _
  · split
    case h_4 => exact completeCapture_tables s _ _ _ _ _
    all_goals exact answerPort_tables s _ _ _

/-- The position moves on with no read in flight: to the next line, or past a granule that leaves the dirty set (R86). -/
theorem advanceSweep_moves (s : State) (w : WinIdx) (hi : s.sweep.inFlight = none) : Moves s (s.advanceSweep w) := by
  unfold State.advanceSweep
  split
  · exact .refl
  · rename_i p hp
    refine moves_ite (fun _ => ?_) fun _ => (Move.advance p _ hp hi).moves
    have hclean : Moves s.dropPosition (s.dropPosition.withDirty (s.dirty.filter (· != p.granule))) :=
      (Move.clean _ List.filter_sublist rfl).moves
    have hsame : SameTables (s.dropPosition.withDirty (s.dirty.filter (· != p.granule)))
        ((s.withDirty (s.dirty.filter (· != p.granule))).withSweep { s.sweep with position := none }) :=
      .of_fields rfl rfl rfl rfl (by simp [State.dropPosition, hi]) rfl rfl
    exact Move.drop.moves.trans (hclean.trans (hsame.moves.trans (Move.test w).moves))

theorem completeSweep_moves (s : State) (w : WinIdx) (line : Line) (current : Bool) (c : Completion)
    (hi : s.sweep.inFlight = none) : Moves s (s.completeSweep w line current c) := by
  have hfault : SameTables s
      (if completionOk c then s else s.offerFault .memoryError (some w) (some line) none none) := by
    split
    · exact .refl s
    · exact offerFault_tables s _ _ _ _ _
  unfold State.completeSweep
  refine hfault.moves.trans (moves_ite (fun hs => ?_) fun _ => .refl)
  have happend := Move.append (s := if completionOk c then s else s.offerFault .memoryError (some w) (some line) none none)
    (s.sweepEntry w line c) ⟨w, by rw [hfault.windows]; exact (capturing_iff _).2 (.inl hs.1)⟩
    fun _ => by rw [hfault.windows]; exact fun hm => absurd (hs.1.symm.trans hm) (by decide)
  refine happend.moves.trans (moves_ite_self .refl fun _ => advanceSweep_moves _ w ?_)
  rw [State.withJournal_sweep, hfault.sweep, hi]

theorem completeApply_moves (s : State) (e : ApplyEntry) (window : Option WinIdx) (c : Completion) :
    Moves s (s.completeApply e window c) :=
  ((finishEntry_tables s e _).trans (examine_tables _)).moves.trans (drainCheck_moves _)

theorem idlePort_tables (s : State) (h : ¬ s.port.sweeping) : SameTables s s.idlePort :=
  withPort_tables s _ ⟨False.elim, h⟩

/-- The operation on the port completes: the port becomes idle and the owner acts (R65). -/
theorem completeFor_moves (s : State) (o : Operation) (c : Completion) (ho : s.port.op = some o) :
    Moves s (s.idlePort.completeFor o c) := by
  obtain ⟨line, access, owner⟩ := o
  cases owner with
  | host tag grant =>
    have hidle := idlePort_tables s (by simp [MemoryPort.sweeping, ho])
    exact (hidle.trans (completeHost_tables _ _ tag grant c)).moves
  | sweep w discarded =>
    refine (Move.endRead (s := s)).moves.trans ?_
    unfold State.completeFor
    exact moves_ite (fun _ => .refl) fun _ => completeSweep_moves _ w line _ c rfl
  | apply e window discarded =>
    have hidle := idlePort_tables s (by simp [MemoryPort.sweeping, ho])
    refine hidle.moves.trans ?_
    unfold State.completeFor
    exact moves_ite (fun _ => .refl) fun _ => completeApply_moves _ e window c

/-! ### Timers -/

theorem overflowSuspend_moves (s : State) (w : WinIdx) (line : Line) : Moves s (s.overflowSuspend w line) :=
  (suspendWhere_moves s _ _ fun _ => enabled_of_capturing).trans
    ((offerFault_tables _ _ _ _ _ _).trans ((raise_tables _ _).trans (count_tables _ _))).moves

theorem expireStall_moves (s : State) : Moves s s.expireStall := by
  refine moves_ite_self .refl fun _ => ?_
  split
  · exact .refl
  · split
    · exact (overflowSuspend_moves s _ _).trans (settle_moves _)
    all_goals exact .refl

theorem releaseTag_tables (s : State) (seq : Seq) (tag : Tag) : SameTables s (s.releaseTag seq tag) :=
  mapEntries_tables s _ fun e => by split <;> exact ⟨rfl, rfl⟩

theorem expireHold_moves (s : State) (tag : Tag) : Moves s (s.expireHold tag) := by
  refine moves_ite_self .refl fun _ => ?_
  split
  · exact .refl
  · exact ((answerHeld_tables s _ _).trans ((releaseTag_tables _ _ _).trans
      ((raise_tables _ _).trans (count_tables _ _)))).moves.trans (settle_moves _)

theorem rewindFrom_tables (s : State) (k : Nat) : SameTables s (s.withEntries (rewindFrom k s.journal.entries)) := by
  refine withJournal_tables s _ fun e he => ?_
  rcases List.mem_append.1 he with h | h
  · exact ⟨e, List.mem_of_mem_take h, rfl, rfl⟩
  · obtain ⟨x, hx, rfl⟩ := List.mem_map.1 h
    exact ⟨x, List.mem_of_mem_drop hx, rfl, rfl⟩

theorem askRewind_moves (s : State) (k : Nat) : Moves s (s.askRewind k) :=
  moves_ite (fun _ => ((rewindFrom_tables s k).trans ((withSeq_tables _ _).trans (count_tables _ _))).moves)
    fun _ => (offerFault_tables s _ _ _ _ _).moves.trans (linkLoss_moves _ _)

theorem chooseFrame_tables (s : State) (probe : Bool) : SameTables s (s.chooseFrame probe) :=
  .of_same (chooseFrame_same s probe) (by rw [chooseFrame_eq]; rfl) (by rw [chooseFrame_eq]; rfl)

theorem expireAck_moves (s : State) : Moves s s.expireAck :=
  moves_ite_self .refl fun _ => (askRewind_moves s 0).trans (settle_moves _)

theorem expireProbe_moves (s : State) : Moves s s.expireProbe :=
  moves_ite_self .refl fun _ => (chooseFrame_tables s true).moves.trans (settle_moves _)

theorem expireSilence_moves (s : State) : Moves s s.expireSilence :=
  moves_ite_self .refl fun _ => (linkLoss_moves s .link).trans (settle_moves _)

theorem repeatHello_moves (s : State) : Moves s s.repeatHello :=
  moves_ite_self .refl fun _ => (withLink_tables s { s.link with helloDue := true } rfl).moves.trans (settle_moves _)

theorem foldl_moves {α : Type} (f : State → α → State) (hf : ∀ s a, Moves s (f s a)) (l : List α) (s : State) :
    Moves s (l.foldl f s) := by
  induction l generalizing s with
  | nil => exact .refl
  | cons a l ih => exact (hf s a).trans (ih _)

theorem expireTimer_moves (s : State) (n : TimerName) : Moves s (s.expireTimer n) := by
  cases n with
  | ack => exact expireAck_moves s
  | probe => exact expireProbe_moves s
  | quiet => exact expireSilence_moves s
  | stall => exact expireStall_moves s
  | held => exact foldl_moves _ expireHold_moves _ s

theorem expireDueTimers_moves (s : State) : Moves s s.expireDueTimers :=
  moves_ite (fun _ => foldl_moves _ expireTimer_moves _ s)
    fun _ => (foldl_moves _ expireTimer_moves _ s).trans (withFreeCount_tables _ _).moves

/-! ### Frames received -/

theorem noteReceipt_tables (s : State) : SameTables s s.noteReceipt := by
  unfold State.noteReceipt
  split
  · exact withLink_tables s _ rfl
  · exact .refl s

/-- A frame is noted and, where it counts, acted on and settled (R100). -/
theorem receive_moves (s : State) {c : Prop} [Decidable c] {t : State} (ht : c → Moves s.noteReceipt t) :
    Moves s (if s.receives then if c then t.settle else s.noteReceipt else s) :=
  moves_ite_self .refl fun _ =>
    moves_ite_self (noteReceipt_tables s).moves fun hc => (ht hc).trans (settle_moves _)

theorem reconcile_moves (s : State) (f q : Seq) (hr : s.role = .source) : Moves s (s.reconcile f q) := by
  refine moves_ite_self .refl fun _ => ?_
  obtain ⟨hrole, -⟩ := suspendWhere_fields s Window.enabled .missingReport
  refine (suspendWhere_moves s _ _ fun _ h => h).trans ((markAll_moves _ (.inl (hrole.trans hr)) fun w hm => ?_).trans
    ((withSeq_tables _ _).trans ((offerFault_tables _ _ _ _ _ _).trans (raise_tables _ _))).moves)
  rw [suspendWhere_get] at hm
  split at hm
  · exact nomatch hm
  · rename_i h; exact absurd ((enabled_iff _).2 (by rw [hm]; decide)) h

theorem toSequencer_source {s : State} (h : s.toSequencer = true) : s.role = .source := by
  simp only [State.toSequencer, Bool.and_eq_true, beq_iff_eq] at h
  exact h.1

theorem bogus_moves (s : State) (q : Seq) : Moves s (s.bogus q) :=
  (offerFault_tables s _ _ _ _ _).moves.trans (linkLoss_moves _ _)

theorem takeAck_moves (s : State) (q f : Seq) (hr : s.role = .source) : Moves s (s.takeAck q f) := by
  unfold State.takeAck
  split
  · exact reconcile_moves s f q hr
  · rename_i k _
    have hprogress : Moves s (s.progress k) := (acknowledge_moves (k + 1) s).trans (withSeq_tables _ _).moves
    exact hprogress.trans (reconcile_moves _ f q ((acknowledge_role (k + 1) s).trans hr))
  all_goals exact bogus_moves s q

theorem takeNak_moves (s : State) (q : Seq) : Moves s (s.takeNak q) := by
  unfold State.takeNak
  split
  · exact askRewind_moves s _
  · exact .refl
  all_goals exact bogus_moves s q

/-- The window that a REPORT affects is enabled (R15). -/
theorem reportAffects_enabled {s : State} {r : Report} {w : WinIdx} {g : Nat} (h : s.reportAffects r = some (w, g)) :
    s.windows[w].enabled = true := by
  unfold State.reportAffects at h
  split at h
  · obtain ⟨v, hv, he⟩ := Option.map_eq_some_iff.1 h
    injection he with he _
    exact he ▸ (owner_some hv).1
  · obtain ⟨v, hv, he⟩ := Option.map_eq_some_iff.1 h
    injection he with he _
    exact he ▸ (remoteOwner_some hv).1

theorem markReported_tables (s : State) (q : Seq) : SameTables s (s.markReported q) :=
  mapEntries_tables s _ fun e => by split <;> exact ⟨rfl, rfl⟩

theorem suspendWindow_state (s : State) (w : WinIdx) (cause : SuspendCause) :
    (s.suspendWindow w cause).windows[w].state = .suspended := by
  rw [suspendWindow_eq]; simp

theorem takeReport_moves (s : State) (r : Report) (hr : s.role = .source) : Moves s (s.takeReport r) := by
  have hmark := markReported_tables s r.seq
  have hwindow : Moves (s.markReported r.seq) ((s.markReported r.seq).reportWindow (s.reportAffects r)) := by
    unfold State.reportWindow
    split
    · exact .refl
    · rename_i w g h
      refine (suspendWindow_moves (s.markReported r.seq) w .partner (reportAffects_enabled (s := s) h)).trans
        (markDirty_moves _ w g ?_ fun hm => ?_)
      · exact .inl ((suspendWindow_kept _ w .partner).role_eq.trans hr)
      · rw [suspendWindow_state] at hm; exact nomatch hm
  exact hmark.moves.trans (hwindow.trans
    ((withSeq_tables _ _).trans ((offerFault_tables _ _ _ _ _ _).trans (raise_tables _ _))).moves)

theorem damaged_moves (s : State) :
    Moves s
      (let t := s.count fun c => { c with damagedFrames := countUp c.damagedFrames }
      if t.toChecker then (t.withRx (t.rx.placeNak .damaged)).settle else t) :=
  moves_ite_self (count_tables s _).moves fun _ => (withRx_tables _ _).moves.trans (settle_moves _)

theorem upHello_moves (s : State) (h : Hello) : Moves s (s.upHello h) :=
  ((linkLoss_moves s .link).trans (enterHail_moves _)).trans
    (moves_ite_self .refl fun hl => hailHello_moves _ h hl)

theorem receiveHello_moves (s : State) (h : Hello) :
    Moves s
      (if s.receives then
        match s.link.state with
        | .down => s
        | .hail => (s.hailHello h).settle
        | .up => if s.role = .sink ∧ helloFromSink h = true then s.noteReceipt else (s.noteReceipt.upHello h).settle
        | .clash => s
      else s) := by
  refine moves_ite_self .refl fun _ => ?_
  split
  · exact .refl
  · exact (hailHello_moves s h ‹_›).trans (settle_moves _)
  · exact moves_ite (fun _ => (noteReceipt_tables s).moves)
      fun _ => (noteReceipt_tables s).moves.trans ((upHello_moves _ h).trans (settle_moves _))
  · exact .refl

theorem signalLost_moves (s : State) : Moves s s.signalLost := by
  unfold State.signalLost
  split
  · exact .refl
  · exact leaveLink_moves s fun hs => absurd (hs.2.symm.trans ‹_›) (by decide)
  · exact linkLoss_moves s .link
  · exact .refl

theorem withTest_tables (s : State) (t : TestRecord) : SameTables s (s.withLink { s.link with test := t }) :=
  withLink_tables s _ rfl

/-! ### The host port -/

theorem acceptRequest_tables (s : State) (q : QueuedRequest) : SameTables s (s.acceptRequest q) := by
  refine SameTables.trans ?_ (withHost_tables _ _)
  split
  · exact offerFault_tables s _ _ _ _ _
  · exact .refl s

theorem dropTag_sweeping (o : Option Operation) (n : Nat) :
    MemoryPort.sweeping { op := o.map Operation.dropTag, passedOver := n } ↔
      MemoryPort.sweeping { op := o, passedOver := n } := by
  rcases o with _ | ⟨line, access, owner⟩
  · rfl
  · cases owner <;> rfl

theorem hostPortReset_tables (s : State) : SameTables s s.hostPortReset := by
  have hentries : SameTables (s.withHost { s.host with queue := [], held := [], tags := [], resetLine := true })
      ((s.withHost { s.host with queue := [], held := [], tags := [], resetLine := true }).withJournal
        { s.journal with entries := s.journal.entries.map fun e => { e with heldTags := [] }, stallStart := none }) :=
    withJournal_tables _ _ fun e he => by
      obtain ⟨x, hx, rfl⟩ := List.mem_map.1 he
      exact ⟨x, hx, rfl, rfl⟩
  exact (withHost_tables s _).trans (hentries.trans (withPort_tables _ _ (dropTag_sweeping s.port.op s.port.passedOver)))

/-! ### The service port -/

theorem reply_moves (s : State) (echo code : Byte) (st : ServiceStatus) (r : Reason) (l : List Byte) :
    Moves s (s.reply echo code st r l) := (reply_tables s echo code st r l).moves

/-- An effect, settled and then answered DONE. -/
theorem settleDone_moves {s t : State} (echo code : Byte) (l : List Byte) (h : Moves s t) :
    Moves s (t.settle.replyDone echo code l) :=
  h.trans ((settle_moves t).trans (replyDone_tables _ _ _ _).moves)

/-- The record that SET_WINDOW writes is legal (R4). -/
theorem program_legal (x : Window) (a : SetWindowArgs) (kind : WindowKind) (cls : CommitClass) (hoff : x.enabled = false)
    (hsize : ¬ (a.size = 0 ∨ Config.windowLimit < a.size)) (hl : ¬ rangeOutOfBounds a.localBase a.size = true)
    (hr : ¬ rangeOutOfBounds a.remoteBase a.size = true) : WindowLegal (x.program a kind cls) := by
  have hen : (x.program a kind cls).enabled = false := hoff
  simp only [rangeOutOfBounds, Bool.or_eq_true, decide_eq_true_eq, not_or, not_lt] at hl hr
  simp only [not_or, not_lt] at hsize
  refine ⟨hsize.2, ?_, ?_, by simp [hen]⟩
  · show a.localBase + a.size ≤ _; omega
  · show a.remoteBase + a.size ≤ _; omega

theorem setWindow_moves (s : State) (echo : Byte) (a : SetWindowArgs) : Moves s (s.setWindow echo a) := by
  unfold State.setWindow
  split
  · exact reply_moves s _ _ _ _ _
  · rename_i w _
    refine moves_ite (fun _ => reply_moves s _ _ _ _ _) fun hen => ?_
    split
    · rename_i kind cls _ _
      refine moves_ite (fun _ => reply_moves s _ _ _ _ _) fun hsize => ?_
      refine moves_ite (fun _ => reply_moves s _ _ _ _ _) fun hl => ?_
      refine moves_ite (fun _ => reply_moves s _ _ _ _ _) fun hr => ?_
      have hoff : s.windows[w].enabled = false := by simpa using hen
      have hstate := (enabled_false_iff _).1 hoff
      exact (Move.program w (s.windows[w].program a kind cls) hstate hstate
        (program_legal _ a kind cls hoff hsize hl hr)).moves.trans (replyDone_tables _ _ _ _).moves
    · exact reply_moves s _ _ _ _ _
    · exact reply_moves s _ _ _ _ _

theorem enableWindow_moves (s : State) (w : WinIdx) (hw : s.windows[w].state = .off) (hsize : 0 < s.windows[w].size)
    (ho : s.overlaps w = false) (ht : s.enabledTotal + s.windows[w].size ≤ Config.windowLimit) :
    Moves s (s.enableWindow w) := by
  refine moves_ite (fun hr => ?_) fun _ => (Move.enable w .role hw hsize ho ht).moves
  refine (Move.enable w .enabled hw hsize ho ht).moves.trans (markWindow_moves _ w hr fun hm => ?_)
  rw [updateWindow_get, if_pos rfl] at hm
  exact nomatch hm

theorem tryEnable_moves (s : State) (echo : Byte) (n : Nat) : Moves s (s.tryEnable echo n) := by
  unfold State.tryEnable
  split
  · exact reply_moves s _ _ _ _ _
  · rename_i w _
    refine moves_ite (fun _ => reply_moves s _ _ _ _ _) fun hen => ?_
    refine moves_ite (fun _ => reply_moves s _ _ _ _ _) fun hsize => ?_
    refine moves_ite (fun _ => reply_moves s _ _ _ _ _) fun ho => ?_
    refine moves_ite (fun _ => reply_moves s _ _ _ _ _) fun ht => settleDone_moves _ _ _ ?_
    exact enableWindow_moves s w ((enabled_false_iff _).1 (by simpa using hen)) (Nat.pos_of_ne_zero hsize)
      (by simpa using ho) (by simpa using ht)

theorem disableWindow_eq (s : State) (w : WinIdx) :
    s.disableWindow w =
      ((s.updateWindow w fun x => { x with state := .off }).withDirty
          (removeRange s.windows[w].localBase s.windows[w].size s.dirty)).withSweep (s.dropPositionIn w).sweep := by
  have h : ∀ d, ((s.withDirty d).dropPositionIn w) = (s.dropPositionIn w).withDirty d := by
    intro d
    unfold State.dropPositionIn
    rw [State.withDirty_sweep]
    split
    · rfl
    · split <;> rfl
  unfold State.disableWindow
  simp only
  rw [h, dropPositionIn_eq]
  rfl

theorem disableWindow_moves (s : State) (w : WinIdx) (hw : s.windows[w].enabled = true) :
    Moves s (s.disableWindow w) := by
  have hwin : (s.dropPositionIn w).windows = s.windows := by rw [dropPositionIn_eq]; rfl
  refine (dropPositionIn_moves s w).trans ?_
  have hmove := Move.disable (s := s.dropPositionIn w) w (by rw [hwin]; exact hw)
    fun p hp => (dropPositionIn_position hp).1
  rw [dropPositionIn_eq] at hmove ⊢
  rw [disableWindow_eq]
  exact hmove.moves

theorem tryDisable_moves (s : State) (echo : Byte) (n : Nat) :
    Moves s
      (match windowArg n with
      | none => s.refuse echo 5 .value
      | some w =>
        if s.windows[w].enabled then (s.disableWindow w).settle.replyDone echo 5 [] else s.replyDone echo 5 []) := by
  split
  · exact reply_moves s _ _ _ _ _
  · exact moves_ite (fun hw => settleDone_moves _ _ _ (disableWindow_moves s _ hw)) fun _ => reply_moves s _ _ _ _ _

theorem startSweep_moves (s : State) (w : WinIdx) (full : Bool) (hs : s.inSession)
    (hw : s.windows[w].state = .suspended) : Moves s (s.startSweep w full) := by
  have hmark : Moves s (if full then s.markWindow w else s) :=
    moves_ite_self .refl fun _ => markWindow_moves s w (.inl hs.1) fun hm => absurd (hw.symm.trans hm) (by decide)
  have hsame : (if full then s.markWindow w else s) = s.withDirty (if full then s.markWindow w else s).dirty := by
    split
    · exact markWindow_eq s w
    · rfl
  refine hmark.trans ((Move.startSweep w ?_ ?_).moves.trans (Move.test w).moves)
  · rw [hsame]; exact hs
  · rw [hsame]; exact hw

theorem tryStartSweep_moves (s : State) (echo : Byte) (n scope : Nat) : Moves s (s.tryStartSweep echo n scope) := by
  unfold State.tryStartSweep
  split
  · refine moves_ite (fun _ => reply_moves s _ _ _ _ _) fun hr => ?_
    refine moves_ite (fun _ => reply_moves s _ _ _ _ _) fun hl => ?_
    split
    · exact reply_moves s _ _ _ _ _
    · exact reply_moves s _ _ _ _ _
    · exact reply_moves s _ _ _ _ _
    · exact settleDone_moves _ _ _ (startSweep_moves s _ _ ⟨not_not.1 hr, not_not.1 hl⟩ ‹_›)
  · exact reply_moves s _ _ _ _ _
  · exact reply_moves s _ _ _ _ _

theorem tryPause_moves (s : State) (echo : Byte) (n : Nat) : Moves s (s.tryPause echo n) := by
  have hpause (w : WinIdx) (hw : s.windows[w].capturing = true) :
      Moves s ((s.suspendWindow w .paused).settle.replyDone echo 7 []) :=
    settleDone_moves _ _ _ (suspendWindow_moves s w _ (enabled_of_capturing hw))
  unfold State.tryPause
  split
  · exact reply_moves s _ _ _ _ _
  · split
    · exact reply_moves s _ _ _ _ _
    · exact reply_moves s _ _ _ _ _
    · exact hpause _ ((capturing_iff _).2 (.inl ‹_›))
    · exact hpause _ ((capturing_iff _).2 (.inr ‹_›))

theorem assumeSource_moves (s : State) (echo : Byte) : Moves s (s.assumeSource echo) := by
  refine moves_ite (fun _ => reply_moves s _ _ _ _ _) fun _ => ?_
  split
  · exact (changeRole_moves s .source nofun).trans (reply_moves _ _ _ _ _ _)
  · exact reply_moves s _ _ _ _ _
  · exact (changeRole_moves s .draining fun _ => ‹_›).trans ((drainCheck_moves _).trans (reply_moves _ _ _ _ _ _))
  · exact reply_moves s _ _ _ _ _

theorem assumeSink_moves (s : State) (echo : Byte) (force : Bool) : Moves s (s.assumeSink echo force) := by
  have hsink (u : State) : Moves u ((u.changeRole .sink).replyDone echo 9 []) :=
    (changeRole_moves u .sink nofun).trans (reply_moves _ _ _ _ _ _)
  refine moves_ite (fun _ => reply_moves s _ _ _ _ _) fun _ => ?_
  split
  · exact hsink s
  · exact moves_ite (fun _ => hsink s) fun _ =>
      moves_ite (fun _ => (discard_tables s).moves.trans (hsink _)) fun _ => reply_moves s _ _ _ _ _
  · exact reply_moves s _ _ _ _ _
  · exact reply_moves s _ _ _ _ _

theorem setTimers_moves (s : State) (echo : Byte) (t : Timers) : Moves s (s.setTimers echo t) :=
  moves_ite (fun _ => reply_moves s _ _ _ _ _) fun _ =>
    moves_ite (fun _ => reply_moves s _ _ _ _ _) fun _ =>
      moves_ite (fun _ => reply_moves s _ _ _ _ _) fun _ =>
        (withService_tables s _).moves.trans ((expireDueTimers_moves _).trans (reply_moves _ _ _ _ _ _))

theorem setOverride_moves (s : State) (echo : Byte) (v : Option Bool) : Moves s (s.setOverride echo v) := by
  unfold State.setOverride
  split
  · exact reply_moves s _ _ _ _ _
  · exact moves_ite (fun _ => reply_moves s _ _ _ _ _) fun _ => settleDone_moves _ _ _ (withService_tables s _).moves

theorem readFault_moves (s : State) (echo : Byte) : Moves s (s.readFault echo) := by
  unfold State.readFault
  split
  · exact reply_moves s _ _ _ _ _
  · exact ((withService_tables s _).trans (reply_tables _ _ _ _ _ _)).moves

theorem linkTest_moves (s : State) (echo : Byte) (n : Nat) : Moves s (s.linkTest echo n) :=
  moves_ite (fun _ => reply_moves s _ _ _ _ _) fun _ =>
    moves_ite (fun _ => reply_moves s _ _ _ _ _) fun _ =>
      moves_ite (fun _ => reply_moves s _ _ _ _ _) fun _ =>
        ((withTest_tables s _).trans (reply_tables _ _ _ _ _ _)).moves

/-! ### Every command and every step -/

theorem restart_moves (s : State) (echo : Byte) : Moves s (s.warmReset.replyDone echo 19 []) :=
  (warmReset_moves s).trans (reply_moves _ _ _ _ _ _)

/-- The cold reset values are those of State.reset in every table, at whatever level of the pin (R182). -/
theorem cold_inv {P : State → Prop} (hsame : ∀ s t, SameTables s t → P s → P t) (hreset : P State.reset) (s : State)
    (pin : Bool) : P (s.cold pin) :=
  hsame State.reset _ ⟨rfl, rfl, rfl, rfl, rfl, Iff.rfl, nofun⟩ hreset

/-- The outcome of a command as the tables see it: a chain of moves, or the cold reset values. -/
def TablesOutcome (s : State) (o : Host.Outcome State Fault Refusal) : Prop :=
  ∃ t, o = .next t ∧ (Moves s t ∨ ∃ pin, SameTables (s.cold pin) t)

theorem Moves.outcome {s t : State} (h : Moves s t) : TablesOutcome s (.next t) := ⟨t, rfl, .inl h⟩

theorem take_outcome (s : State) (f : State → State) (hf : ∀ u, Moves u (f u)) : TablesOutcome s (.next (s.take f)) :=
  (take_moves s f hf).outcome

theorem takeCommand_outcome (s : State) (echo code : Byte) (args : List Byte) (f : State → State)
    (hf : ∀ u, Moves u (f u)) : TablesOutcome s (.next (s.takeCommand echo code args f)) :=
  (takeCommand_moves s echo code args f hf).outcome

theorem hostRequest_outcome (s : State) (r : HostRequest) : TablesOutcome s (execHostRequest r s) :=
  take_outcome s _ fun u => moves_ite (fun _ => .refl) fun _ =>
    moves_ite (fun _ => (offerFault_tables u _ _ _ _ _).moves)
      fun _ => (acceptRequest_tables u _).moves.trans (settle_moves _)

theorem hostPortReset_outcome (s : State) : TablesOutcome s (execHostPortReset s) :=
  (moves_ite (fun _ => (withHost_tables s _).moves) fun _ =>
    moves_ite (fun _ => prompt_moves s) fun _ => (prompt_moves s).trans (hostPortReset_tables _).moves).outcome

theorem coldReset_outcome (s : State) (edge : ColdPinEdge) : TablesOutcome s (execColdReset edge s) := by
  cases edge with
  | asserted => exact ⟨_, rfl, .inr ⟨true, ⟨rfl, rfl, rfl, rfl, rfl, Iff.rfl, nofun⟩⟩⟩
  | released signal =>
    unfold execColdReset
    simp only
    split
    · exact ⟨_, rfl, .inr ⟨false, withLink_tables _ _ rfl⟩⟩
    · exact (prompt_moves s).outcome

theorem memoryCompletion_outcome (s : State) (c : Completion) : TablesOutcome s (execMemoryCompletion c s) := by
  refine take_outcome s _ fun u => ?_
  split
  · exact .refl
  · exact (completeFor_moves u _ c ‹_›).trans (settle_moves _)

theorem laneSignalChange_outcome (s : State) (signal : LaneSignal) :
    TablesOutcome s (execLaneSignalChange signal s) := by
  refine take_outcome s _ fun u => moves_ite (fun _ => .refl) fun _ => ?_
  have hsignal := (withLink_tables u { u.link with signal := signal } rfl).moves
  cases signal with
  | absent => exact hsignal.trans ((signalLost_moves _).trans (settle_moves _))
  | present => exact hsignal.trans (settle_moves _)

theorem frameEnd_outcome (s : State) : TablesOutcome s (execFrameEnd s) := by
  refine take_outcome s _ fun u => ?_
  split
  · exact .refl
  · exact (withLink_tables u { u.link with lane := none } rfl).moves.trans (settleWith_moves _ _)

theorem testFrameReturn_outcome (s : State) (bytes : List Byte) : TablesOutcome s (execTestFrameReturn bytes s) := by
  refine take_outcome s _ fun u => ?_
  split
  · exact .refl
  · exact moves_ite (fun _ => ((withTest_tables u _).trans (raise_tables _ _)).moves)
      fun _ => (withTest_tables u _).moves

theorem receiveDataFrame_outcome (s : State) (f : DataFrame) : TablesOutcome s (execReceiveDataFrame f s) :=
  take_outcome s _ fun u => receive_moves u fun _ => (withRx_tables _ _).moves

theorem receiveProbe_outcome (s : State) (epoch : Epoch) : TablesOutcome s (execReceiveProbe epoch s) :=
  take_outcome s _ fun u => receive_moves u fun _ => (withRx_tables _ _).moves

theorem receiveAck_outcome (s : State) (epoch : Epoch) (q f : Seq) : TablesOutcome s (execReceiveAck epoch q f s) :=
  take_outcome s _ fun u => receive_moves u fun hc => takeAck_moves _ q f (toSequencer_source hc.1)

theorem receiveNak_outcome (s : State) (epoch : Epoch) (q : Seq) (reason : NakReason) :
    TablesOutcome s (execReceiveNak epoch q reason s) :=
  take_outcome s _ fun u => receive_moves u fun _ => takeNak_moves _ q

theorem receiveReport_outcome (s : State) (r : Report) : TablesOutcome s (execReceiveReport r s) :=
  take_outcome s _ fun u => receive_moves u fun hc => takeReport_moves _ r (toSequencer_source hc.1)

/-- What a command does to the tables. -/
theorem exec_outcome (i : Instr) (s : State) : TablesOutcome s (exec i s) := by
  cases i with
  | hostRequest r => exact hostRequest_outcome s r
  | hostPortReset => exact hostPortReset_outcome s
  | coldReset edge => exact coldReset_outcome s edge
  | portGrant => exact (prompt_moves s).outcome
  | memoryCompletion c => exact memoryCompletion_outcome s c
  | applyHeadExamine => exact (moves_ite (fun _ => .refl) fun _ => examineNow_moves s).outcome
  | drainEnd => exact take_outcome s _ drainCheck_moves
  | stallExpiry => exact take_outcome s _ expireStall_moves
  | holdExpiry tag => exact take_outcome s _ fun u => expireHold_moves u tag
  | ackTimerExpiry => exact take_outcome s _ expireAck_moves
  | probeIdleExpiry => exact take_outcome s _ expireProbe_moves
  | silenceExpiry => exact take_outcome s _ expireSilence_moves
  | helloRepeat => exact take_outcome s _ repeatHello_moves
  | laneSignalChange signal => exact laneSignalChange_outcome s signal
  | damagedFrame bytes => exact take_outcome s _ fun u => moves_ite_self .refl fun _ => damaged_moves u
  | receiveHello h => exact take_outcome s _ fun u => receiveHello_moves u h
  | receiveDataFrame f => exact receiveDataFrame_outcome s f
  | receiveProbe epoch => exact receiveProbe_outcome s epoch
  | receiveAck epoch q f => exact receiveAck_outcome s epoch q f
  | receiveNak epoch q reason => exact receiveNak_outcome s epoch q reason
  | receiveReport r => exact receiveReport_outcome s r
  | frameEnd => exact frameEnd_outcome s
  | testFrameReturn bytes => exact testFrameReturn_outcome s bytes
  | badMessage bytes =>
    exact take_outcome s _ fun u => moves_ite (fun _ => reply_moves u _ _ _ _ _) fun _ => reply_moves u _ _ _ _ _
  | unknownCommand echo code args => exact take_outcome s _ fun u => reply_moves u _ _ _ _ _
  | getStatus echo args => exact takeCommand_outcome s _ _ _ _ fun u => reply_moves u _ _ _ _ _
  | setWindow echo args => exact takeCommand_outcome s _ _ _ _ fun u => setWindow_moves u _ _
  | getWindow echo args =>
    refine takeCommand_outcome s _ _ _ _ fun u => ?_
    split <;> exact reply_moves u _ _ _ _ _
  | enableWindow echo args => exact takeCommand_outcome s _ _ _ _ fun u => tryEnable_moves u _ _
  | disableWindow echo args => exact takeCommand_outcome s _ _ _ _ fun u => tryDisable_moves u _ _
  | startSweep echo args => exact takeCommand_outcome s _ _ _ _ fun u => tryStartSweep_moves u _ _ _
  | pauseWindow echo args => exact takeCommand_outcome s _ _ _ _ fun u => tryPause_moves u _ _
  | assumeSource echo args => exact takeCommand_outcome s _ _ _ _ fun u => assumeSource_moves u _
  | assumeSink echo args =>
    refine takeCommand_outcome s _ _ _ _ fun u => ?_
    split
    · exact reply_moves u _ _ _ _ _
    · exact assumeSink_moves u _ _
  | isolate echo args =>
    exact takeCommand_outcome s _ _ _ _ fun u => moves_ite (fun _ => reply_moves u _ _ _ _ _)
      fun _ => (changeRole_moves u .isolated nofun).trans (reply_moves _ _ _ _ _ _)
  | setTimers echo args => exact takeCommand_outcome s _ _ _ _ fun u => setTimers_moves u _ _
  | setMask echo args =>
    exact takeCommand_outcome s _ _ _ _ fun u => ((withService_tables u _).trans (reply_tables _ _ _ _ _ _)).moves
  | readEvents echo args =>
    exact takeCommand_outcome s _ _ _ _ fun u => ((withService_tables u _).trans (reply_tables _ _ _ _ _ _)).moves
  | readFault echo args => exact takeCommand_outcome s _ _ _ _ fun u => readFault_moves u _
  | getMarks echo args => exact takeCommand_outcome s _ _ _ _ fun u => reply_moves u _ _ _ _ _
  | setOverride echo args => exact takeCommand_outcome s _ _ _ _ fun u => setOverride_moves u _ _
  | getStats echo args => exact takeCommand_outcome s _ _ _ _ fun u => reply_moves u _ _ _ _ _
  | linkTest echo args => exact takeCommand_outcome s _ _ _ _ fun u => linkTest_moves u _ _
  | restart echo args => exact takeCommand_outcome s _ _ _ _ fun u => restart_moves u _
  | hostPortResetRelease => exact Moves.outcome ((prompt_moves s).trans (withHost_tables _ _).moves)
  | receiveTestFrame pattern payload =>
    exact take_outcome s _ fun u => moves_ite (fun _ => (noteReceipt_tables u).moves) fun _ => .refl

/-- An invariant of the tables: what holds at reset and is kept by every move is kept by every step. -/
theorem step_keeps {P : State → Prop} (hreset : P State.reset) (hmove : ∀ s t, Move s t → P s → P t) {s t : State}
    (hs : P s) (h : step s = .next t) : P t := by
  have hexec (i : Instr) (u : State) (hu : P u) (h : exec i u = .next t) : P t := by
    obtain ⟨t', ht', hcase⟩ := exec_outcome i u
    cases ht'.symm.trans h
    rcases hcase with hm | ⟨pin, hcold⟩
    · exact hm.keeps hmove hu
    · exact hmove _ _ (.same hcold) (cold_inv (fun _ _ h => hmove _ _ (.same h)) hreset u pin)
  have hsame (u : State) (hu : SameTables s u) : P u := hmove _ _ (.same hu) hs
  unfold step at h
  split at h
  · exact hexec _ _ (hsame _ (withPending_tables s _)) h
  · split at h
    · refine hexec _ _ (hsame _ ?_) h
      unfold State.chosen
      split
      · exact .refl s
      · exact withFreeCount_tables s _
    · injection h with h
      subst h
      refine hsame _ ?_
      unfold State.tick State.unlessHeld
      split
      · exact .refl s
      · exact withTime_tables s _

end Sys2Proof.Machine
end

section
/-! The invariants of the tables, move by move. -/

namespace Sys2Proof.Machine

/-! ### Windows -/

theorem rangesShare_iff (a n b m : Nat) :
    rangesShare a n b m = true ↔ ∃ g, (a ≤ g ∧ g < a + n) ∧ (b ≤ g ∧ g < b + m) := by
  simp only [rangesShare, Bool.and_eq_true, decide_eq_true_eq]
  constructor
  · rintro ⟨⟨⟨h1, h2⟩, h3⟩, h4⟩
    exact ⟨max a b, by omega, by omega⟩
  · rintro ⟨g, h1, h2⟩
    omega

theorem rangesShare_comm (a n b m : Nat) : rangesShare a n b m = rangesShare b m a n := by
  rw [Bool.eq_iff_iff, rangesShare_iff, rangesShare_iff]
  simp only [and_comm]

theorem enabledTotal_eq (s : State) :
    s.enabledTotal = ∑ v : WinIdx, if s.windows[v].enabled then s.windows[v].size else 0 := (Fin.sum_univ_def _).symm

theorem enabledTotal_mono {s t : State}
    (h : ∀ w : WinIdx, t.windows[w].enabled = true → s.windows[w].enabled = true ∧
      t.windows[w].size = s.windows[w].size) : t.enabledTotal ≤ s.enabledTotal := by
  rw [enabledTotal_eq, enabledTotal_eq]
  refine Finset.sum_le_sum fun w _ => ?_
  by_cases hw : t.windows[w].enabled = true
  · obtain ⟨hen, hsize⟩ := h w hw
    rw [if_pos hw, if_pos hen, hsize]
  · rw [if_neg hw]; exact Nat.zero_le _

/-- Legal records of which no more are enabled than before, those with their ranges kept, keep the window table legal. -/
theorem WindowsInv.of_narrower {s t : State} (hs : WindowsInv s) (hlegal : ∀ w : WinIdx, WindowLegal t.windows[w])
    (hkeep : ∀ w : WinIdx, t.windows[w].enabled = true → s.windows[w].enabled = true ∧
      t.windows[w].localBase = s.windows[w].localBase ∧ t.windows[w].remoteBase = s.windows[w].remoteBase ∧
      t.windows[w].size = s.windows[w].size) : WindowsInv t := by
  refine ⟨hlegal, fun v w hvw hv hw => ?_, le_trans (enabledTotal_mono fun w hw => ?_) hs.2.2⟩
  · obtain ⟨hv', hvl, hvr, hvs⟩ := hkeep v hv
    obtain ⟨hw', hwl, hwr, hws⟩ := hkeep w hw
    rw [hvl, hvr, hvs, hwl, hwr, hws]
    exact hs.2.1 v w hvw hv' hw'
  · obtain ⟨hen, -, -, hsize⟩ := hkeep w hw
    exact ⟨hen, hsize⟩

/-- The same, where every record keeps its ranges. -/
theorem WindowsInv.of_sameRanges {s t : State} (hs : WindowsInv s)
    (hkeep : ∀ w : WinIdx, t.windows[w].localBase = s.windows[w].localBase ∧
      t.windows[w].remoteBase = s.windows[w].remoteBase ∧ t.windows[w].size = s.windows[w].size ∧
      (t.windows[w].enabled = true → s.windows[w].enabled = true)) : WindowsInv t := by
  refine hs.of_narrower (fun w => ?_) fun w hw => ?_
  · obtain ⟨hl, hr, hsize, hen⟩ := hkeep w
    obtain ⟨h1, h2, h3, h4⟩ := hs.1 w
    unfold WindowLegal
    rw [hl, hr, hsize]
    exact ⟨h1, h2, h3, fun h => h4 (hen h)⟩
  · obtain ⟨hl, hr, hsize, hen⟩ := hkeep w
    exact ⟨hen hw, hl, hr, hsize⟩

theorem WindowsInv.of_windows {s t : State} (hs : WindowsInv s) (h : t.windows = s.windows) : WindowsInv t :=
  hs.of_sameRanges fun w => by rw [h]; exact ⟨rfl, rfl, rfl, id⟩

theorem overlaps_false {s : State} {w : WinIdx} (h : s.overlaps w = false) (v : WinIdx) (hv : v ≠ w)
    (hen : s.windows[v].enabled = true) :
    rangesShare s.windows[w].localBase s.windows[w].size s.windows[v].localBase s.windows[v].size = false ∧
      rangesShare s.windows[w].remoteBase s.windows[w].size s.windows[v].remoteBase s.windows[v].size = false := by
  simp only [State.overlaps, List.any_eq_false, Bool.and_eq_true, bne_iff_ne, Bool.or_eq_true, not_and, not_or,
    Bool.not_eq_true] at h
  exact h v (List.mem_finRange v) ⟨hv, hen⟩

/-- Enabling a window that passed the checks of R5 keeps the table legal. -/
theorem WindowsInv.enable {s : State} (hs : WindowsInv s) (w : WinIdx) (c : SuspendCause)
    (hw : s.windows[w].state = .off) (hsize : 0 < s.windows[w].size) (ho : s.overlaps w = false)
    (ht : s.enabledTotal + s.windows[w].size ≤ Config.windowLimit) :
    WindowsInv (s.updateWindow w fun x => x.suspend c) := by
  obtain ⟨hlegal, hapart, -⟩ := hs
  have hget (v : WinIdx) := updateWindow_get s w v fun x => x.suspend c
  refine ⟨fun v => ?_, fun u v huv hu hv => ?_, le_trans (le_of_eq ?_) ht⟩
  · rw [hget]
    split
    · obtain ⟨h1, h2, h3, -⟩ := hlegal w
      exact ⟨h1, h2, h3, fun _ => hsize⟩
    · exact hlegal v
  · rw [hget] at hu hv
    rw [hget, hget]
    by_cases huw : u = w
    · have hvw : v ≠ w := fun h => huv (huw.trans h.symm)
      rw [if_neg hvw] at hv
      rw [if_pos huw, if_neg hvw]
      exact overlaps_false ho v hvw hv
    · rw [if_neg huw] at hu
      rw [if_neg huw]
      by_cases hvw : v = w
      · rw [if_pos hvw, rangesShare_comm, rangesShare_comm s.windows[u].remoteBase]
        exact overlaps_false ho u huw hu
      · rw [if_neg hvw] at hv ⊢
        exact hapart u v huv hu hv
  · have hsum : s.windows[w].size = ∑ v : WinIdx, if v = w then s.windows[w].size else 0 := by simp
    rw [enabledTotal_eq, enabledTotal_eq, hsum, ← Finset.sum_add_distrib]
    refine Finset.sum_congr rfl fun v _ => ?_
    rw [hget]
    split
    · rename_i h; subst h
      rw [(enabled_false_iff _).2 hw]
      simp [Window.suspend, Window.enabled]
    · rfl

theorem updateWindow_sameRanges {s : State} (hs : WindowsInv s) (w : WinIdx) (f : Window → Window)
    (hf : ∀ x, (f x).localBase = x.localBase ∧ (f x).remoteBase = x.remoteBase ∧ (f x).size = x.size)
    (hen : (f s.windows[w]).enabled = true → s.windows[w].enabled = true) : WindowsInv (s.updateWindow w f) := by
  refine hs.of_sameRanges fun v => ?_
  rw [updateWindow_get]
  split
  · rename_i h; subst h
    obtain ⟨h1, h2, h3⟩ := hf s.windows[v]
    exact ⟨h1, h2, h3, hen⟩
  · exact ⟨rfl, rfl, rfl, id⟩

/-- What the R12 test can do (R12). -/
theorem sweepTest_cases (s : State) (w : WinIdx) :
    s.sweepTest w = s ∨
      (s.windows[w].state = .sweeping ∧ s.dirtyCount w = 0 ∧
        (∀ e ∈ s.journal.entries, e.kind = .sweep → e.window ≠ w)) ∧
      s.sweepTest w = (s.updateWindow w fun x => { x with state := .mirroring }).raise .sweepDone := by
  by_cases h : s.windows[w].state = .sweeping ∧ (∀ g ∈ s.dirty, s.windows[w].localHas g = false) ∧
      ∀ e ∈ s.journal.entries, e.kind = .sweep → e.window ≠ w
  · obtain ⟨hw, hd, he⟩ := h
    exact .inr ⟨⟨hw, (dirtyCount_eq_zero s w).2 hd, he⟩, sweepTest_clean s w hw hd he⟩
  · exact .inl (sweepTest_other s w h)

theorem windowsInv_move (s t : State) (h : Move s t) (hs : WindowsInv s) : WindowsInv t := by
  cases h with
  | same h => exact hs.of_windows h.windows
  | suspend v hv hp =>
    refine hs.of_sameRanges fun w => ?_
    rw [State.withWindows_windows]
    rcases hv w with h | ⟨hen, c, h⟩
    · rw [h]; exact ⟨rfl, rfl, rfl, id⟩
    · rw [h]; exact ⟨rfl, rfl, rfl, fun _ => hen⟩
  | startSweep w hs' hw =>
    exact updateWindow_sameRanges hs w _ (fun _ => ⟨rfl, rfl, rfl⟩) fun _ => (enabled_iff _).2 (by rw [hw]; decide)
  | test w =>
    rcases sweepTest_cases s w with h | ⟨⟨hw, -, -⟩, h⟩
    · rw [h]; exact hs
    · rw [h]
      exact (updateWindow_sameRanges hs w (fun x => { x with state := .mirroring }) (fun _ => ⟨rfl, rfl, rfl⟩)
        fun _ => (enabled_iff _).2 (by rw [hw]; decide)).of_windows rfl
  | program w x hw hx hl =>
    refine hs.of_narrower (fun v => ?_) fun v hv => ?_
    · rw [updateWindow_get]
      split
      · exact hl
      · exact hs.1 v
    · rw [updateWindow_get] at hv ⊢
      split at hv
      · exact absurd hx ((enabled_iff _).1 hv)
      · rename_i h; rw [if_neg h]; exact ⟨hv, rfl, rfl, rfl⟩
  | enable w c hw hsize ho ht => exact hs.enable w c hw hsize ho ht
  | disable w hw hp =>
    exact (updateWindow_sameRanges hs w (fun x => { x with state := .off }) (fun _ => ⟨rfl, rfl, rfl⟩)
      fun _ => hw).of_windows rfl
  | choose => exact hs.of_windows (by rw [choosePosition_eq]; rfl)
  | append | mark | clean | drop | advance | read | endRead | relink => exact hs.of_windows rfl

/-! ### The session -/

/-- A session that stands as before, with no window that captures newly and no entries where there were none. -/
theorem SessionInv.of_within {s t : State} (hs : SessionInv s) (hr : t.role = s.role) (hl : t.link.state = s.link.state)
    (hw : ∀ w : WinIdx, t.windows[w].capturing = true → s.inSession ∨ s.windows[w].capturing = true)
    (he : t.journal.entries ≠ [] → s.inSession ∨ s.journal.entries ≠ []) : SessionInv t := by
  obtain ⟨⟨hclash, hup⟩, hcap, hent⟩ := hs
  have hsession : s.inSession → t.inSession := fun h => ⟨hr.trans h.1, hl.trans h.2⟩
  refine ⟨⟨?_, ?_⟩, fun w h => hsession ((hw w h).elim id (hcap w)), fun h => hsession ((he h).elim id hent)⟩
  · rw [hr, hl]; exact hclash
  · rw [hr, hl]; exact hup

theorem SessionInv.of_same {s t : State} (hs : SessionInv s) (hr : t.role = s.role) (hl : t.link.state = s.link.state)
    (hw : t.windows = s.windows) (he : t.journal.entries = s.journal.entries) : SessionInv t :=
  hs.of_within hr hl (fun _ h => .inr (hw ▸ h)) fun h => .inr (he ▸ h)

theorem SessionInv.updateWindow {s : State} (hs : SessionInv s) (w : WinIdx) (f : Window → Window)
    (hf : (f s.windows[w]).capturing = true → s.inSession ∨ s.windows[w].capturing = true) :
    SessionInv (s.updateWindow w f) := by
  refine hs.of_within rfl rfl (fun v hv => ?_) .inr
  rw [updateWindow_get] at hv
  split at hv
  · rename_i h; subst h; exact hf hv
  · exact .inr hv

theorem sessionInv_move (s t : State) (h : Move s t) (hs : SessionInv s) : SessionInv t := by
  cases h with
  | same h =>
    refine hs.of_within h.role h.link (fun _ hw => .inr (h.windows ▸ hw)) fun he => .inr ?_
    obtain ⟨e, he⟩ := List.exists_mem_of_ne_nil _ he
    obtain ⟨x, hx, -⟩ := h.entries e he
    exact List.ne_nil_of_mem hx
  | append e hc he =>
    obtain ⟨w, hw⟩ := hc
    exact hs.of_within rfl rfl (fun _ => .inr) fun _ => .inl (hs.2.1 w hw)
  | suspend v hv hp =>
    refine hs.of_within rfl rfl (fun w hw => ?_) .inr
    rw [State.withWindows_windows] at hw
    rcases hv w with h | ⟨-, c, h⟩
    · exact .inr (h ▸ hw)
    · rw [h] at hw; exact nomatch hw
  | startSweep w hin hw => exact hs.updateWindow w _ fun _ => .inl hin
  | test w =>
    rcases sweepTest_cases s w with h | ⟨⟨hw, -, -⟩, h⟩
    · rw [h]; exact hs
    · rw [h]
      exact (hs.updateWindow w (fun x => { x with state := .mirroring })
        fun _ => .inr ((capturing_iff _).2 (.inl hw))).of_same rfl rfl rfl rfl
  | program w x hw hx hl => exact hs.updateWindow w _ fun h => by simp [Window.capturing, hx] at h
  | enable w c hw hsize ho ht => exact hs.updateWindow w _ nofun
  | disable w hw hp =>
    exact (hs.updateWindow w (fun x => { x with state := .off }) nofun).of_same rfl rfl rfl rfl
  | choose => rw [choosePosition_eq]; exact hs.of_same rfl rfl rfl rfl
  | relink r l hq hl hd =>
    obtain ⟨hlegal, hcap, hent⟩ := hs
    refine ⟨hl hlegal, fun w hw => ?_, fun he => ?_⟩
    · exact absurd hw (by simpa using (hq (hcap w hw)).1 w)
    · exact absurd (hq (hent he)).2 he
  | mark | clean | drop | advance | read | endRead => exact hs.of_same rfl rfl rfl rfl

end Sys2Proof.Machine
end

section
/-! The dirty set and the sweep engine, move by move; and with that the invariants that every step keeps. -/

namespace Sys2Proof.Machine

/-! ### The dirty set -/

/-- The same role and dirty set, with every enabled window enabled still with its local range. -/
theorem DirtyInv.of_wider {s t : State} (hs : DirtyInv s) (hr : t.role = s.role) (hd : t.dirty = s.dirty)
    (hw : ∀ w : WinIdx, s.windows[w].enabled = true → t.windows[w].enabled = true ∧
      t.windows[w].localBase = s.windows[w].localBase ∧ t.windows[w].size = s.windows[w].size) : DirtyInv t := by
  obtain ⟨hsort, hmem, hempty⟩ := hs
  unfold DirtyInv
  rw [hd, hr]
  refine ⟨hsort, fun g hg => ?_, hempty⟩
  obtain ⟨w, hen, hl⟩ := hmem g hg
  obtain ⟨hen', hb, hsize⟩ := hw w hen
  exact ⟨w, hen', by rw [localHas_iff, hb, hsize]; exact (localHas_iff _ g).1 hl⟩

theorem DirtyInv.of_same {s t : State} (hs : DirtyInv s) (hr : t.role = s.role) (hw : t.windows = s.windows)
    (hd : t.dirty = s.dirty) : DirtyInv t :=
  hs.of_wider hr hd fun w hen => by rw [hw]; exact ⟨hen, rfl, rfl⟩

theorem DirtyInv.updateWindow {s : State} (hs : DirtyInv s) (w : WinIdx) (f : Window → Window)
    (hf : s.windows[w].enabled = true → (f s.windows[w]).enabled = true ∧
      (f s.windows[w]).localBase = s.windows[w].localBase ∧ (f s.windows[w]).size = s.windows[w].size) :
    DirtyInv (s.updateWindow w f) := by
  refine hs.of_wider rfl rfl fun v hv => ?_
  rw [updateWindow_get]
  split
  · rename_i h; subst h; exact hf hv
  · exact ⟨hv, rfl, rfl⟩

theorem dirtyInv_move (s t : State) (h : Move s t) (hs : DirtyInv s) : DirtyInv t := by
  cases h with
  | same h => exact hs.of_same h.role h.windows h.dirty
  | mark d hr hsort hkeep hnew =>
    obtain ⟨hsorted, hmem, -⟩ := hs
    refine ⟨hsort hsorted, fun g hg => ?_, fun h => ?_⟩
    · rcases hnew g hg with h | ⟨w, hen, hl, -⟩
      · exact hmem g h
      · exact ⟨w, hen, hl⟩
    · rw [State.withDirty_role] at h
      rcases hr with hr | hr <;> rw [hr] at h <;> simp at h
  | clean d hd hp =>
    obtain ⟨hsorted, hmem, hempty⟩ := hs
    refine ⟨hsorted.sublist hd, fun g hg => hmem g (hd.subset hg), fun h => ?_⟩
    exact List.eq_nil_of_subset_nil (hempty h ▸ hd.subset)
  | suspend v hv hp =>
    refine hs.of_wider rfl rfl fun w hen => ?_
    rw [State.withWindows_windows]
    rcases hv w with h | ⟨-, c, h⟩
    · rw [h]; exact ⟨hen, rfl, rfl⟩
    · rw [h]; exact ⟨rfl, rfl, rfl⟩
  | startSweep w hin hw => exact hs.updateWindow w _ fun _ => ⟨rfl, rfl, rfl⟩
  | test w =>
    rcases sweepTest_cases s w with h | ⟨-, h⟩
    · rw [h]; exact hs
    · rw [h]
      exact (hs.updateWindow w (fun x => { x with state := .mirroring }) fun _ => ⟨rfl, rfl, rfl⟩).of_same rfl rfl rfl
  | program w x hw hx hl => exact hs.updateWindow w _ fun hen => absurd hw ((enabled_iff _).1 hen)
  | enable w c hw hsize ho ht => exact hs.updateWindow w _ fun _ => ⟨rfl, rfl, rfl⟩
  | disable w hw hp =>
    obtain ⟨hsorted, hmem, hempty⟩ := hs
    refine ⟨removeRange_sorted _ _ _ hsorted, fun g hg => ?_, fun h => ?_⟩
    · obtain ⟨hg, hout⟩ := (mem_removeRange _ _ _ _).1 hg
      obtain ⟨v, hen, hl⟩ := hmem g hg
      have hvw : v ≠ w := by
        rintro rfl
        exact hout ((localHas_iff _ _).1 hl)
      refine ⟨v, ?_, ?_⟩
      · rw [State.withDirty_windows, updateWindow_get, if_neg hvw]; exact hen
      · rw [State.withDirty_windows, updateWindow_get, if_neg hvw]; exact hl
    · rw [State.withDirty_dirty, hempty h]; rfl
  | choose => rw [choosePosition_eq]; exact hs.of_same rfl rfl rfl
  | relink r l hq hl hd =>
    obtain ⟨hsorted, hmem, hempty⟩ := hs
    refine ⟨hsorted, hmem, fun h => ?_⟩
    rcases hd h with h | h | h
    · exact hempty (.inl h)
    · exact hempty (.inr h)
    · exact h
  | append | drop | advance | read | endRead => exact hs.of_same rfl rfl rfl

/-! ### The sweep engine -/

/-- The invariant of the sweep engine, in the terms in which the moves keep it: clean windows by their granules. -/
theorem sweepInv_iff (s : State) :
    SweepInv s ↔
      (∀ p, s.sweep.position = some p →
        s.windows[p.window].state = .sweeping ∧ s.windows[p.window].localHas p.granule = true ∧ p.granule ∈ s.dirty) ∧
      (s.sweep.inFlight.isSome = true ↔ s.port.sweeping) ∧
      (∀ r, s.sweep.inFlight = some r → r.current = true →
        s.sweep.position = some { window := r.window, granule := r.granule, nextLine := r.line }) ∧
      (∀ w : WinIdx, s.windows[w].state = .mirroring →
        (∀ g ∈ s.dirty, s.windows[w].localHas g = false) ∧ ∀ e ∈ s.journal.entries, e.kind = .sweep → e.window ≠ w) := by
  simp only [SweepInv, dirtyCount_eq_zero]

/-- Two enabled windows of a legal table share no local granule (R5). -/
theorem WindowsInv.apart {s : State} (hs : WindowsInv s) {v w : WinIdx} (hvw : v ≠ w)
    (hv : s.windows[v].enabled = true) (hw : s.windows[w].enabled = true) {g : Nat}
    (hg : s.windows[v].localHas g = true) : s.windows[w].localHas g = false := by
  have h := (hs.2.1 v w hvw hv hw).1
  rw [← Bool.not_eq_true] at h ⊢
  exact fun hg' => h ((rangesShare_iff _ _ _ _).2 ⟨g, (localHas_iff _ _).1 hg, (localHas_iff _ _).1 hg'⟩)

theorem enabled_of_state {w : Window} {x : WindowState} (h : w.state = x) (hx : x ≠ .off := by decide) :
    w.enabled = true := (enabled_iff w).2 (h ▸ hx)

/-- One window record changed, the position's kept where it sweeps, and a window that mirrors newly is clean. -/
theorem SweepInv.updateWindow {s : State} (hs : SweepInv s) (w : WinIdx) (f : Window → Window)
    (hpos : ∀ p, s.sweep.position = some p → p.window = w →
      (f s.windows[w]).state = .sweeping ∧ (f s.windows[w]).localHas p.granule = true)
    (hmir : (f s.windows[w]).state = .mirroring →
      (∀ g ∈ s.dirty, (f s.windows[w]).localHas g = false) ∧ ∀ e ∈ s.journal.entries, e.kind = .sweep → e.window ≠ w) :
    SweepInv (s.updateWindow w f) := by
  rw [sweepInv_iff] at hs ⊢
  obtain ⟨hp, hport, hcur, hm⟩ := hs
  refine ⟨fun p h => ?_, hport, hcur, fun v hv => ?_⟩
  · rw [updateWindow_get]
    split
    · rename_i hw
      obtain ⟨h1, h2⟩ := hpos p h hw
      exact ⟨h1, h2, (hp p h).2.2⟩
    · exact hp p h
  · rw [updateWindow_get] at hv ⊢
    split
    · rename_i h; subst h; rw [if_pos rfl] at hv; exact hmir hv
    · rename_i h; rw [if_neg h] at hv; exact hm v hv

/-- The position that the engine takes is a dirty granule of a SWEEPING window (R84). -/
theorem choosePosition_some {s : State} {p : SweepPosition} (hnone : s.sweep.position = none)
    (h : s.choosePosition.sweep.position = some p) :
    s.windows[p.window].state = .sweeping ∧ s.windows[p.window].localHas p.granule = true ∧ p.granule ∈ s.dirty := by
  unfold State.choosePosition at h
  rw [hnone] at h
  obtain ⟨w, -, hw⟩ := List.exists_of_findSome?_eq_some h
  split at hw
  · rename_i hstate
    obtain ⟨g, hg, rfl⟩ := Option.map_eq_some_iff.1 hw
    exact ⟨hstate, by simpa using List.find?_some hg, List.mem_of_find?_eq_some hg⟩
  · exact nomatch hw

theorem sweepInv_move (s t : State) (h : Move s t) (hsession : SessionInv s) (hwindows : WindowsInv s)
    (hs : SweepInv s) : SweepInv t := by
  have hs' := (sweepInv_iff s).1 hs
  obtain ⟨hp, hport, hcur, hm⟩ := hs'
  cases h with
  | same h =>
    rw [sweepInv_iff, h.sweep, h.windows, h.dirty, h.port]
    refine ⟨hp, hport, hcur, fun w hw => ⟨(hm w hw).1, fun e he hk => ?_⟩⟩
    obtain ⟨x, hx, hxk, hxw⟩ := h.entries e he
    exact hxw ▸ (hm w hw).2 x hx (hxk.trans hk)
  | append e hc hk =>
    refine (sweepInv_iff _).2 ⟨hp, hport, hcur, fun w hw => ⟨(hm w hw).1, fun x hx hxk => ?_⟩⟩
    rcases List.mem_append.1 hx with hx | hx
    · exact (hm w hw).2 x hx hxk
    · obtain rfl := List.mem_singleton.1 hx
      rintro rfl
      exact hk hxk hw
  | mark d hr hsort hkeep hnew =>
    refine (sweepInv_iff _).2 ⟨fun p h => ?_, hport, hcur, fun w hw => ⟨fun g hg => ?_, (hm w hw).2⟩⟩
    · obtain ⟨h1, h2, h3⟩ := hp p h
      exact ⟨h1, h2, hkeep _ h3⟩
    · rcases hnew g hg with h | ⟨v, hen, hl, hv⟩
      · exact (hm w hw).1 g h
      · have hin := hsession.2.1 w ((capturing_iff _).2 (.inr hw))
        have hvw : v ≠ w := by rintro rfl; exact hv hw hin
        exact hwindows.apart hvw hen (enabled_of_state hw) hl
  | clean d hd hnone =>
    refine (sweepInv_iff _).2 ⟨fun p h => ?_, hport, hcur, fun w hw => ⟨fun g hg => ?_, (hm w hw).2⟩⟩
    · exact nomatch hnone.symm.trans h
    · exact (hm w hw).1 g (hd.subset hg)
  | drop =>
    refine (sweepInv_iff _).2 ⟨nofun, ?_, fun r h hc => ?_, hm⟩
    · rw [← show _ ↔ s.dropPosition.port.sweeping from hport]
      simp [State.dropPosition]
    · obtain ⟨x, -, rfl⟩ := Option.map_eq_some_iff.1 h
      exact nomatch hc
  | suspend v hv hpv =>
    refine (sweepInv_iff _).2 ⟨fun p h => ?_, hport, hcur, fun w hw => ?_⟩
    · rw [State.withWindows_windows, hpv p h]; exact hp p h
    · rw [State.withWindows_windows] at hw ⊢
      rcases hv w with h | ⟨-, c, h⟩
      · rw [h] at hw ⊢; exact hm w hw
      · rw [h] at hw; exact nomatch hw
  | startSweep w hin hw =>
    exact hs.updateWindow w _ (fun p h hpw => ⟨rfl, hpw ▸ (hp p h).2.1⟩) nofun
  | test w =>
    rcases sweepTest_cases s w with h | ⟨⟨hw, hd, he⟩, h⟩
    · rw [h]; exact hs
    · rw [h]
      have hclean := (dirtyCount_eq_zero s w).1 hd
      refine hs.updateWindow w (fun x => { x with state := .mirroring }) (fun p h hpw => ?_) fun _ => ⟨hclean, he⟩
      obtain ⟨-, hl, hg⟩ := hp p h
      subst hpw
      rw [hclean _ hg] at hl
      exact nomatch hl
  | program w x hw hx hl =>
    refine hs.updateWindow w _ (fun p h hpw => ?_) fun h => nomatch hx.symm.trans h
    subst hpw
    exact nomatch hw.symm.trans (hp p h).1
  | enable w c hw hsize ho ht =>
    refine hs.updateWindow w _ (fun p h hpw => ?_) nofun
    subst hpw
    exact nomatch hw.symm.trans (hp p h).1
  | disable w hw hpw =>
    have hoff := hs.updateWindow w (fun x => { x with state := .off }) (fun p h hpw' => absurd hpw' (hpw p h)) nofun
    obtain ⟨hp', -, -, hm'⟩ := (sweepInv_iff _).1 hoff
    refine (sweepInv_iff _).2 ⟨fun p h => ?_, hport, hcur, fun v hv => ⟨fun g hg => ?_, (hm' v hv).2⟩⟩
    · obtain ⟨h1, h2, h3⟩ := hp' p h
      refine ⟨h1, h2, (mem_removeRange _ _ _ _).2 ⟨h3, fun hin => ?_⟩⟩
      have hl := hwindows.apart (hpw p h) (enabled_of_state (hp p h).1) hw (hp p h).2.1
      rw [(localHas_iff _ _).2 hin] at hl
      exact nomatch hl
    · exact (hm' v hv).1 g ((mem_removeRange _ _ _ _).1 hg).1
  | choose =>
    cases hpos : s.sweep.position with
    | some p =>
      have : s.choosePosition = s := by unfold State.choosePosition; rw [hpos]
      rw [this]; exact hs
    | none =>
      rw [choosePosition_eq]
      refine (sweepInv_iff _).2 ⟨fun p h => ?_, hport, fun r h hc => ?_, hm⟩
      · exact choosePosition_some (s := s) hpos h
      · exact nomatch hpos.symm.trans (hcur r h hc)
  | advance p n hpos hi =>
    refine (sweepInv_iff _).2 ⟨fun q h => ?_, hport, fun r h => ?_, hm⟩
    · injection h with h
      subst h
      exact hp p hpos
    · exact nomatch hi.symm.trans h
  | read p hpos hidle =>
    refine (sweepInv_iff _).2 ⟨hp, ⟨fun _ => trivial, fun _ => rfl⟩, fun r h _ => ?_, hm⟩
    injection h with h
    subst h
    exact hpos
  | endRead => exact (sweepInv_iff _).2 ⟨hp, ⟨nofun, nofun⟩, nofun, hm⟩
  | relink r l hq hl hd => exact (sweepInv_iff _).2 ⟨hp, hport, hcur, hm⟩

/-! ### Every step -/

theorem reset_window (w : WinIdx) : State.reset.windows[w] = Window.reset := by
  simp [State.reset]

theorem sessionInv_reset : SessionInv State.reset :=
  ⟨linkLegal_of_down rfl, fun w h => by rw [reset_window] at h; exact absurd h nofun, fun h => absurd rfl h⟩

theorem windowsInv_reset : WindowsInv State.reset := by
  have hoff (w : WinIdx) : State.reset.windows[w].enabled = false := by rw [reset_window]; rfl
  refine ⟨fun w => ?_, fun v w _ hv _ => ?_, ?_⟩
  · rw [reset_window]
    exact ⟨by decide, by decide, by decide, nofun⟩
  · rw [hoff] at hv; exact nomatch hv
  · rw [enabledTotal_eq]
    simp only [hoff, Bool.false_eq_true, if_false, Finset.sum_const_zero, Nat.zero_le]

theorem dirtyInv_reset : DirtyInv State.reset := ⟨.nil, nofun, fun _ => rfl⟩

theorem sweepInv_reset : SweepInv State.reset :=
  ⟨nofun, ⟨nofun, nofun⟩, nofun, fun w h => by rw [reset_window] at h; exact absurd h nofun⟩

/-- The session, the window table and the sweep engine together: the sweep engine's part rests on the other two. -/
def SweepTablesInv (s : State) : Prop := SessionInv s ∧ WindowsInv s ∧ SweepInv s

theorem sweepTablesInv_move (s t : State) (h : Move s t) : SweepTablesInv s → SweepTablesInv t := by
  rintro ⟨hsession, hwindows, hsweep⟩
  exact ⟨sessionInv_move s t h hsession, windowsInv_move s t h hwindows, sweepInv_move s t h hsession hwindows hsweep⟩

/-- Settles O52: every move of a step keeps the session. -/
theorem stepsKeepTheSession : Obligations.StepsKeepTheSession :=
  fun _ _ hs h => step_keeps sessionInv_reset sessionInv_move hs h

/-- Settles O55: every move of a step keeps the window table, and every move keeps the dirty set. -/
theorem stepsKeepWindowsAndDirtySet : Obligations.StepsKeepWindowsAndDirtySet :=
  ⟨fun _ _ hs h => step_keeps windowsInv_reset windowsInv_move hs h,
    fun _ _ hs h => step_keeps dirtyInv_reset dirtyInv_move hs h⟩

/-- Settles O56: every move of a step keeps the sweep engine sound in a legal session with a legal window table. -/
theorem stepsKeepTheSweepSound : Obligations.StepsKeepTheSweepSound := by
  intro s t hsession hwindows hsweep h
  exact (step_keeps (P := SweepTablesInv) ⟨sessionInv_reset, windowsInv_reset, sweepInv_reset⟩ sweepTablesInv_move
    ⟨hsession, hwindows, hsweep⟩ h).2.2

end Sys2Proof.Machine
end

section
/-! The service commands on windows: GET_WINDOW, SET_WINDOW, ENABLE_WINDOW, DISABLE_WINDOW and PAUSE_WINDOW. -/

namespace Sys2Proof.Machine

/-! ### Arguments -/

theorem argNat_head (n v : Nat) (r : List Byte) (h : v < 256 ^ n) : argNat (beBytes n v ++ r) 0 n = v := by
  rw [argNat, List.drop_zero, List.take_left' (beBytes_length n v), beNat_beBytes n v h]

theorem argNat_skip (k v : Nat) (r : List Byte) (m n : Nat) : argNat (beBytes k v ++ r) (k + m) n = argNat r m n := by
  rw [argNat, argNat, ← List.drop_drop, List.drop_left' (beBytes_length k v)]

theorem argNat_byte (b : Byte) : argNat [b] 0 1 = b.toNat := by simp [argNat, beNat]

theorem windowArg_some (w : WinIdx) : windowArg w.val = some w := dif_pos w.isLt

theorem windowArg_byte (w : WinIdx) : windowArg (BitVec.ofNat 8 w.val).toNat = some w := by
  rw [BitVec.toNat_ofNat, Nat.mod_eq_of_lt (by omega), windowArg_some]

theorem windowArg_none {n : Nat} (h : 15 < n) : windowArg n = none := dif_neg (by omega)

/-! ### GET_WINDOW -/

theorem dirtyCount_eq_countP (s : State) (w : WinIdx) :
    s.dirtyCount w =
      s.dirty.countP fun g => s.windows[w].localBase ≤ g ∧ g < s.windows[w].localBase + s.windows[w].size := by
  simp [State.dirtyCount, countRange, List.countP_eq_length_filter, Bool.decide_and]

theorem boolByte_enabled (x : Window) : boolByte x.enabled = if x.state = .off then 0 else 1 := by
  unfold boolByte Window.enabled
  cases x.state <;> rfl

theorem exec_getWindow {s : State} (echo : Byte) {n : Byte} {w : WinIdx} (h : Ready s)
    (hw : windowArg n.toNat = some w) :
    exec (.getWindow echo [n]) s = .next (s.replyDone echo 3 (s.windowBytes w)) := by
  show Host.Outcome.next (s.takeCommand echo 3 [n] _) = _
  rw [takeCommand_taken echo 3 [n] _ h rfl, argNat_byte]
  simp only [hw]

theorem exec_getWindow_none {s : State} (echo : Byte) {n : Byte} (h : Ready s) (hn : 15 < n.toNat) :
    exec (.getWindow echo [n]) s = .next (s.refuse echo 3 .value) := by
  show Host.Outcome.next (s.takeCommand echo 3 [n] _) = _
  rw [takeCommand_taken echo 3 [n] _ h rfl, argNat_byte]
  simp only [windowArg_none hn]

/-- Settles O9: the record byte by byte, and the dirty count. -/
theorem getWindowReturnsTheRecord : Obligations.GetWindowReturnsTheRecord := by
  intro echo s hready
  refine ⟨fun w => ?_, fun n hn => exec_getWindow_none echo hready hn⟩
  rw [exec_getWindow echo hready (windowArg_byte w)]
  simp only [State.windowBytes, boolByte_enabled, dirtyCount_eq_countP]
  rfl

/-! ### SET_WINDOW -/

/-- The fifteen argument bytes of SET_WINDOW give their fields back (R170). -/
theorem setWindowArgs_bytes {n lb sz rb k c : Nat} (hn : n < 256) (hlb : lb < 2 ^ 32) (hsz : sz < 2 ^ 32)
    (hrb : rb < 2 ^ 32) (hk : k < 256) (hc : c < 256) :
    setWindowArgs (beBytes 1 n ++ beBytes 4 lb ++ beBytes 4 sz ++ beBytes 4 rb ++ beBytes 1 k ++ beBytes 1 c) =
      { window := n, localBase := lb, size := sz, remoteBase := rb, kind := k, cls := c } := by
  have hc' : argNat (beBytes 1 c) 0 1 = c := by
    have h := argNat_head 1 c [] (by simpa using hc)
    rwa [List.append_nil] at h
  unfold setWindowArgs
  rw [SetWindowArgs.mk.injEq]
  simp only [List.append_assoc]
  refine ⟨?_, ?_, ?_, ?_, ?_, ?_⟩
  · exact argNat_head 1 n _ (by simpa using hn)
  · exact (argNat_skip 1 n _ 0 4).trans (argNat_head 4 lb _ hlb)
  · exact (argNat_skip 1 n _ 4 4).trans ((argNat_skip 4 lb _ 0 4).trans (argNat_head 4 sz _ hsz))
  · exact (argNat_skip 1 n _ 8 4).trans ((argNat_skip 4 lb _ 4 4).trans ((argNat_skip 4 sz _ 0 4).trans
      (argNat_head 4 rb _ hrb)))
  · exact (argNat_skip 1 n _ 12 1).trans ((argNat_skip 4 lb _ 8 1).trans ((argNat_skip 4 sz _ 4 1).trans
      ((argNat_skip 4 rb _ 0 1).trans (argNat_head 1 k _ (by simpa using hk)))))
  · exact (argNat_skip 1 n _ 13 1).trans ((argNat_skip 4 lb _ 9 1).trans ((argNat_skip 4 sz _ 5 1).trans
      ((argNat_skip 4 rb _ 1 1).trans ((argNat_skip 1 k _ 0 1).trans hc'))))

theorem windowKindArg_le {k : Nat} (h : k ≤ 1) : windowKindArg k = some (if k = 0 then .mirror else .marker) := by
  interval_cases k <;> rfl

theorem windowKindArg_gt {k : Nat} (h : 1 < k) : windowKindArg k = none := by
  obtain ⟨m, rfl⟩ := Nat.exists_eq_add_of_lt h
  rw [show 1 + m + 1 = m + 2 by omega]
  rfl

theorem commitClassArg_le {c : Nat} (h : c ≤ 1) : commitClassArg c = some (if c = 0 then .posted else .held) := by
  interval_cases c <;> rfl

theorem commitClassArg_gt {c : Nat} (h : 1 < c) : commitClassArg c = none := by
  obtain ⟨m, rfl⟩ := Nat.exists_eq_add_of_lt h
  rw [show 1 + m + 1 = m + 2 by omega]
  rfl

/-- Check 3 of R4: the size, and the kind and class bytes. -/
theorem setWindow_value {s : State} (echo : Byte) (a : SetWindowArgs) {w : WinIdx} (hw : windowArg a.window = some w)
    (hoff : s.windows[w].enabled = false) (h : a.size = 0 ∨ 65536 < a.size ∨ 1 < a.kind ∨ 1 < a.cls) :
    s.setWindow echo a = s.refuse echo 2 .value := by
  unfold State.setWindow
  simp only [hw, hoff, Bool.false_eq_true, if_false]
  split
  · rename_i kind cls hk hc
    rw [if_pos]
    rcases h with h | h | h | h
    · exact .inl h
    · exact .inr h
    · rw [windowKindArg_gt h] at hk; exact nomatch hk
    · rw [commitClassArg_gt h] at hc; exact nomatch hc
  · rfl
  · rfl

/-- Checks 4 and 5 of R4, and what is written when they pass. -/
theorem setWindow_checked {s : State} (echo : Byte) (a : SetWindowArgs) {w : WinIdx} (hw : windowArg a.window = some w)
    (hoff : s.windows[w].enabled = false) (hpos : 1 ≤ a.size) (hmax : a.size ≤ 65536) (hk : a.kind ≤ 1) (hc : a.cls ≤ 1) :
    s.setWindow echo a =
      if rangeOutOfBounds a.localBase a.size = true ∨ rangeOutOfBounds a.remoteBase a.size = true then
        s.refuse echo 2 .bounds
      else
        (s.updateWindow w fun x =>
          x.program a (if a.kind = 0 then .mirror else .marker) (if a.cls = 0 then .posted else .held)).replyDone
          echo 2 [] := by
  unfold State.setWindow
  simp only [hw, hoff, Bool.false_eq_true, if_false, windowKindArg_le hk, commitClassArg_le hc]
  rw [if_neg (by rw [not_or, not_lt]; exact ⟨by omega, hmax⟩)]
  by_cases hl : rangeOutOfBounds a.localBase a.size = true <;> simp [hl]

theorem rangeOutOfBounds_iff (base size : Nat) :
    rangeOutOfBounds base size = true ↔ 16777215 < base ∨ 16777215 < base + size - 1 := by
  unfold rangeOutOfBounds Config.granuleMax
  rw [Bool.or_eq_true, decide_eq_true_eq, decide_eq_true_eq]

/-- Settles O14: each check of R4 by the lemma of its place in the order. -/
theorem setWindowChecksThenWrites : Obligations.SetWindowChecksThenWrites := by
  intro echo n lb sz rb k c s hn hlb hsz hrb hk hc hready
  have hexec : ∀ args : List Byte, args.length = 15 →
      exec (.setWindow echo args) s = .next (s.setWindow echo (setWindowArgs args)) := fun args hl =>
    congrArg Host.Outcome.next (takeCommand_taken echo 2 args _ hready hl)
  simp only
  rw [hexec _ (by simp), setWindowArgs_bytes hn hlb hsz hrb hk hc]
  refine ⟨fun h => ?_, fun w hw => ⟨fun hen => ?_, fun hoff => ⟨fun h => ?_, fun hpos hmax hk' hc' => ?_⟩⟩⟩
  · unfold State.setWindow
    rw [windowArg_none h]
    rfl
  · subst hw
    unfold State.setWindow
    simp only [windowArg_some, (enabled_iff _).2 hen, if_true]
  · subst hw
    rw [setWindow_value echo _ (windowArg_some w) ((enabled_false_iff _).2 hoff) h]
    rfl
  · subst hw
    rw [setWindow_checked echo _ (windowArg_some w) ((enabled_false_iff _).2 hoff) hpos hmax hk' hc']
    simp only [rangeOutOfBounds_iff]
    refine ⟨fun h => ?_, fun hl hr => ?_⟩
    · rw [if_pos (by tauto)]; rfl
    · rw [if_neg (by omega)]; rfl

end Sys2Proof.Machine
end

section
/-! What `settle` leaves of the sweep position, and the service commands that suspend or disable one window. -/

namespace Sys2Proof.Machine

/-! ### After `settle` -/

theorem SameButSettled.reply {u t : State} (h : SameButSettled u t) (echo code : Byte) (st : ServiceStatus) (r : Reason)
    (l : List Byte) : SameButSettled (u.reply echo code st r l) (t.reply echo code st r l) := by
  obtain ⟨h1, h2, h3, h4, h5, h6, h7, h8, h9, h10, h11, h12, h13, h14, h15, h16, h17, h18, h19, h20, h21, h22⟩ := h
  refine ⟨h1, h2, h3, h4, h5, h6, h7, h8, h9, h10, h11, h12, h13, h14, h15, h16, h17, h18, h19, h20, ?_, h22⟩
  unfold State.reply
  rw [State.withService_service, State.withService_service, h21]

@[simp] theorem replyDone_windows (s : State) (echo code : Byte) (l : List Byte) :
    (s.replyDone echo code l).windows = s.windows := rfl

@[simp] theorem replyDone_dirty (s : State) (echo code : Byte) (l : List Byte) :
    (s.replyDone echo code l).dirty = s.dirty := rfl

theorem SameButSettled.windows_eq {u t : State} (h : SameButSettled u t) : t.windows = u.windows := by
  obtain ⟨-, -, hw, -⟩ := h
  exact hw

theorem SameButSettled.dirty_eq {u t : State} (h : SameButSettled u t) : t.dirty = u.dirty := by
  obtain ⟨-, -, -, -, -, hd, -⟩ := h
  exact hd

/-- The position that the engine takes is read from the engine, the windows and the dirty set (R84). -/
theorem choosePosition_congr {s t : State} (hs : t.sweep = s.sweep) (hw : t.windows = s.windows)
    (hd : t.dirty = s.dirty) : t.choosePosition.sweep = s.choosePosition.sweep := by
  unfold State.choosePosition
  rw [hs, hw, hd]
  split
  · exact hs
  · rfl

/-- After `settle` the sweep engine is as the choice of a position leaves it (R84). -/
theorem settleWith_sweep (s : State) (probe : Bool) : (s.settleWith probe).sweep = s.choosePosition.sweep := by
  have hclear (u : State) : u.clearPassedOver.sweep = u.sweep := by rw [clearPassedOver_eq]; rfl
  unfold State.settleWith
  simp only
  rw [hclear]
  refine choosePosition_congr ?_ ?_ ?_ <;> rw [timeStall_eq, chooseFrame_eq, answerHeads_eq, enterHail_eq] <;> rfl

theorem settle_position_kept {s : State} {p : SweepPosition} (h : s.sweep.position = some p) :
    s.settle.sweep.position = some p := by
  unfold State.settle
  rw [settleWith_sweep]
  unfold State.choosePosition
  rw [h]
  exact h

theorem settle_position_some {s : State} {p : SweepPosition} (h : s.settle.sweep.position = some p) :
    s.sweep.position = some p ∨ s.windows[p.window].state = .sweeping := by
  unfold State.settle at h
  rw [settleWith_sweep] at h
  cases hs : s.sweep.position with
  | some q =>
    unfold State.choosePosition at h
    simp only [hs] at h
    exact .inl h
  | none => exact .inr (choosePosition_some hs h).1

/-- A window that does not sweep and is not the position's is not the position's after `settle`. -/
theorem settle_position_elsewhere {s : State} {w : WinIdx} (hp : ∀ p, s.sweep.position = some p → p.window ≠ w)
    (hw : s.windows[w].state ≠ .sweeping) (p : SweepPosition) (h : s.settle.sweep.position = some p) : p.window ≠ w := by
  rcases settle_position_some h with h | h
  · exact hp p h
  · rintro rfl; exact hw h

/-! ### ENABLE_WINDOW -/

theorem overlaps_iff (s : State) (w : WinIdx) :
    s.overlaps w = true ↔
      ∃ v : WinIdx, v ≠ w ∧ s.windows[v].state ≠ .off ∧ ∃ g : Nat,
        (s.windows[w].localHas g = true ∧ s.windows[v].localHas g = true) ∨
          (s.windows[w].remoteHas g = true ∧ s.windows[v].remoteHas g = true) := by
  have hremote (x : Window) (g : Nat) : x.remoteHas g = true ↔ x.remoteBase ≤ g ∧ g < x.remoteBase + x.size := by
    simp [Window.remoteHas]
  simp only [State.overlaps, List.any_eq_true, Bool.and_eq_true, Bool.or_eq_true, bne_iff_ne, rangesShare_iff,
    enabled_iff, localHas_iff, hremote, exists_or, allWindows, List.mem_finRange, true_and, and_assoc]

theorem enabledTotal_states (s : State) :
    s.enabledTotal =
      ((List.finRange 16).map fun v => if s.windows[v].state = .off then 0 else s.windows[v].size).sum := by
  unfold State.enabledTotal allWindows
  congr 2
  funext v
  by_cases h : s.windows[v].state = .off
  · rw [if_pos h, (enabled_false_iff _).2 h]; rfl
  · rw [if_neg h, (enabled_iff _).2 h]; rfl

theorem enableWindow_windows (s : State) (w : WinIdx) :
    (s.enableWindow w).windows =
      s.windows.set w
        { s.windows[w] with
          state := .suspended
          cause := if s.role = .source ∨ s.role = .isolated then .enabled else .role } := by
  unfold State.enableWindow
  split
  · rw [markWindow_eq]; rfl
  · rfl

theorem enableWindow_eq (s : State) (w : WinIdx) :
    s.enableWindow w = (s.withWindows (s.enableWindow w).windows).withDirty (s.enableWindow w).dirty := by
  unfold State.enableWindow
  split
  · rw [markWindow_eq]; rfl
  · rfl

theorem mem_enableWindow (s : State) (w : WinIdx) (g : Nat) :
    g ∈ (s.enableWindow w).dirty ↔
      g ∈ s.dirty ∨ ((s.role = .source ∨ s.role = .isolated) ∧ s.windows[w].localBase ≤ g ∧
        g < s.windows[w].localBase + s.windows[w].size) := by
  unfold State.enableWindow
  split
  · rename_i hr
    rw [mem_markWindow, updateWindow_get, if_pos rfl, localHas_iff]
    exact or_congr_right ⟨fun h => ⟨hr, h.2⟩, fun h => ⟨rfl, h.2⟩⟩
  · rename_i hr
    exact ⟨.inl, fun h => h.elim id fun h => absurd h.1 hr⟩

theorem exec_enableWindow {s : State} (echo n : Byte) (h : Ready s) :
    exec (.enableWindow echo [n]) s = .next (s.tryEnable echo n.toNat) := by
  show Host.Outcome.next (s.takeCommand echo 4 [n] _) = _
  rw [takeCommand_taken echo 4 [n] _ h rfl, argNat_byte]

/-- The checks of R5 in their order, on an OFF window. -/
theorem tryEnable_off {s : State} (echo n : Byte) {w : WinIdx} (hn : windowArg n.toNat = some w)
    (hoff : s.windows[w].state = .off) :
    s.tryEnable echo n.toNat =
      if s.windows[w].size = 0 then s.refuse echo 4 .value
      else if s.overlaps w then s.refuse echo 4 .overlap
      else if 65536 < s.enabledTotal + s.windows[w].size then s.refuse echo 4 .limit
      else (s.enableWindow w).settle.replyDone echo 4 [] := by
  unfold State.tryEnable
  simp only [hn, (enabled_false_iff _).2 hoff, Bool.false_eq_true, if_false]
  rfl

/-- Settles O15: the checks by `tryEnable_off`, the effect by the record, the marks and what `settle` leaves. -/
theorem enableWindowChecksThenSuspends : Obligations.EnableWindowChecksThenSuspends := by
  intro echo s hready
  refine ⟨fun n hn => ?_, fun w => ?_⟩
  · rw [exec_enableWindow echo n hready, State.tryEnable, windowArg_none hn]
    rfl
  simp only
  rw [exec_enableWindow echo _ hready, ← enabledTotal_states, ← overlaps_iff]
  refine ⟨fun hon => ?_, fun hoff hsize => ?_, fun hoff hsize ho => ?_, fun hoff hsize ho ht => ?_,
    fun hoff hsize ho ht => ?_⟩
  · unfold State.tryEnable
    simp only [windowArg_byte, (enabled_iff _).2 hon, if_true]
    rfl
  · rw [tryEnable_off echo _ (windowArg_byte w) hoff, if_pos hsize]
    rfl
  · rw [tryEnable_off echo _ (windowArg_byte w) hoff, if_neg (by omega), if_pos ho]
    rfl
  · rw [tryEnable_off echo _ (windowArg_byte w) hoff, if_neg (by omega), if_neg ho, if_pos ht]
    rfl
  · rw [tryEnable_off echo _ (windowArg_byte w) hoff, if_neg (by omega), if_neg ho, if_neg (by rw [not_lt]; exact ht)]
    have hsame := settle_same (s.enableWindow w)
    have hwin : ((s.enableWindow w).settle.replyDone echo 4 []).windows = (s.enableWindow w).windows :=
        (replyDone_windows _ _ _ _).trans hsame.windows_eq
    have hdirty : ((s.enableWindow w).settle.replyDone echo 4 []).dirty = (s.enableWindow w).dirty :=
        (replyDone_dirty _ _ _ _).trans hsame.dirty_eq
    refine ⟨_, rfl, ?_, ?_, ?_⟩
    · rw [hwin, enableWindow_windows]
    · rw [hdirty]; exact mem_enableWindow s w
    · rw [hwin, hdirty, ← enableWindow_eq]
      exact hsame.reply echo 4 .done .noReason []

/-! ### DISABLE_WINDOW -/

/-- The read in flight after the position in `w` was dropped (R88). -/
theorem dropPositionIn_inFlight (s : State) (w : WinIdx) :
    (s.dropPositionIn w).sweep.inFlight =
      s.sweep.inFlight.map fun r => { r with current := r.current && !(s.sweep.position.any fun p => p.window == w) } := by
  have hid (o : Option SweepRead) : o = o.map fun r => { r with current := r.current && !false } := by
    cases o <;> simp
  unfold State.dropPositionIn
  cases hp : s.sweep.position with
  | none => exact hid _
  | some p =>
    by_cases hw : p.window = w
    · simp [hw, State.dropPosition]
    · have hw' : (p.window == w) = false := by simpa using hw
      simp only [if_neg hw, Option.any_some, hw']
      exact hid _

theorem dropPositionIn_kept {s : State} {w : WinIdx} {p : SweepPosition} (hp : s.sweep.position = some p)
    (hw : p.window ≠ w) : (s.dropPositionIn w).sweep.position = some p := by
  unfold State.dropPositionIn
  simp only [hp, if_neg hw]

theorem exec_disableWindow {s : State} (echo : Byte) (w : WinIdx) (h : Ready s) :
    exec (.disableWindow echo [BitVec.ofNat 8 w.val]) s =
      .next
        (if s.windows[w].enabled then (s.disableWindow w).settle.replyDone echo 5 []
        else s.replyDone echo 5 []) := by
  show Host.Outcome.next (s.takeCommand echo 5 [BitVec.ofNat 8 w.val] _) = _
  rw [takeCommand_taken echo 5 [BitVec.ofNat 8 w.val] _ h rfl, argNat_byte]
  simp only [windowArg_byte]

theorem exec_disableWindow_none {s : State} (echo : Byte) {n : Byte} (h : Ready s) (hn : 15 < n.toNat) :
    exec (.disableWindow echo [n]) s = .next (s.refuse echo 5 .value) := by
  show Host.Outcome.next (s.takeCommand echo 5 [n] _) = _
  rw [takeCommand_taken echo 5 [n] _ h rfl, argNat_byte]
  simp only [windowArg_none hn]

theorem removeRange_eq (base n : Nat) (l : List Nat) :
    removeRange base n l = l.filter fun g => ¬ (base ≤ g ∧ g < base + n) := by
  unfold removeRange
  refine List.filter_congr fun g _ => ?_
  rw [Bool.eq_iff_iff]
  simp only [Bool.or_eq_true, decide_eq_true_eq]
  omega

theorem disableWindow_state (s : State) (w : WinIdx) : (s.disableWindow w).windows[w].state = .off := by
  rw [disableWindow_eq, State.withSweep_windows, State.withDirty_windows, updateWindow_get, if_pos rfl]

/-! ### PAUSE_WINDOW -/

theorem exec_pauseWindow {s : State} (echo n : Byte) (h : Ready s) :
    exec (.pauseWindow echo [n]) s = .next (s.tryPause echo n.toNat) := by
  show Host.Outcome.next (s.takeCommand echo 7 [n] _) = _
  rw [takeCommand_taken echo 7 [n] _ h rfl, argNat_byte]

/-- PAUSE_WINDOW on a capturing window (R14). -/
theorem pauseWindow_accepted {s : State} (echo : Byte) (w : WinIdx) (hready : Ready s)
    (hw : s.windows[w].state = .sweeping ∨ s.windows[w].state = .mirroring) :
    exec (.pauseWindow echo [BitVec.ofNat 8 w.val]) s =
      .next ((s.suspendWindow w .paused).settle.replyDone echo 7 []) := by
  rw [exec_pauseWindow echo _ hready]
  unfold State.tryPause
  rw [windowArg_byte]
  rcases hw with hw | hw <;> simp only [hw]

theorem suspendWindow_sweep (s : State) (w : WinIdx) (cause : SuspendCause) :
    (s.suspendWindow w cause).sweep = (s.dropPositionIn w).sweep := by
  have h : (s.suspendWindow w cause).sweep = ((s.updateWindow w fun x => x.suspend cause).dropPositionIn w).sweep := by
    unfold State.suspendWindow
    simp only
    split <;> rfl
  rw [h]
  unfold State.updateWindow
  rw [dropPositionIn_withWindows]
  rfl

/-- Settles O16: the effects by `disableWindow_eq` and `suspendWindow_eq`, the position by what `settle` takes. -/
theorem disableAndPauseEndCapture : Obligations.DisableAndPauseEndCapture := by
  refine ⟨fun echo s hready => ⟨fun n hn => exec_disableWindow_none echo hready hn, fun w => ?_⟩,
    fun echo s hready => ⟨fun n hn => ?_, fun w => ?_⟩⟩
  · refine ⟨fun hoff => ?_, fun hon =>
      ⟨_, (exec_disableWindow echo w hready).trans (by rw [if_pos ((enabled_iff _).2 hon)]), ?_, ?_, ?_, ?_, ?_⟩⟩
    · rw [exec_disableWindow echo w hready, (enabled_false_iff _).2 hoff]
      rfl
    · exact (settle_same _).windows_eq.trans (by rw [disableWindow_eq]; rfl)
    · refine (settle_same _).dirty_eq.trans ?_
      rw [disableWindow_eq]
      exact removeRange_eq _ _ _
    · refine settle_position_elsewhere (fun p hp => ?_) (by rw [disableWindow_state]; decide)
      rw [disableWindow_eq] at hp
      exact (dropPositionIn_position hp).1
    · intro p hp hw
      refine settle_position_kept ?_
      rw [disableWindow_eq]
      exact dropPositionIn_kept hp hw
    · have hsame := settle_same (s.disableWindow w)
      have hwin : ((s.disableWindow w).settle.replyDone echo 5 []).windows = (s.disableWindow w).windows :=
        (replyDone_windows _ _ _ _).trans hsame.windows_eq
      have hdirty : ((s.disableWindow w).settle.replyDone echo 5 []).dirty = (s.disableWindow w).dirty :=
        (replyDone_dirty _ _ _ _).trans hsame.dirty_eq
      rw [hwin, hdirty, ← dropPositionIn_inFlight]
      refine SameButSettled.trans ?_ (hsame.reply echo 5 .done .noReason [])
      rw [disableWindow_eq]
      exact SameButSettled.refl _
  · rw [exec_pauseWindow echo n hready, State.tryPause, windowArg_none hn]
    rfl
  · refine ⟨fun hoff => ?_, fun hsus => ?_, fun hcap => ⟨_, pauseWindow_accepted echo w hready hcap, ?_, ?_, ?_, ?_⟩⟩
    · rw [exec_pauseWindow echo _ hready, State.tryPause, windowArg_byte]
      simp only [hoff]
      rfl
    · rw [exec_pauseWindow echo _ hready, State.tryPause, windowArg_byte]
      simp only [hsus]
      rfl
    · exact (settle_same _).windows_eq.trans (by rw [suspendWindow_eq]; rfl)
    · refine settle_position_elsewhere (fun p hp => ?_) (by rw [suspendWindow_state]; decide)
      rw [suspendWindow_sweep] at hp
      exact (dropPositionIn_position hp).1
    · intro p hp hw
      refine settle_position_kept ?_
      rw [suspendWindow_sweep]
      exact dropPositionIn_kept hp hw
    · have hsame := settle_same (s.suspendWindow w .paused)
      have hwin : ((s.suspendWindow w .paused).settle.replyDone echo 7 []).windows =
        (s.suspendWindow w .paused).windows :=
        (replyDone_windows _ _ _ _).trans hsame.windows_eq
      rw [hwin]
      refine SameButSettled.trans ?_ (hsame.reply echo 7 .done .noReason [])
      have hpaused := suspendWindow_eq s w .paused
      simp only [(capturing_iff _).2 hcap, if_true] at hpaused
      rw [hpaused]
      exact SameButSettled.refl _

end Sys2Proof.Machine
end

section
/-! The owning window of a granule, and the translation of lines between the two ranges of a window. -/

namespace Sys2Proof.Machine

/-! ### The owning window -/

theorem remoteHas_iff (w : Window) (g : Nat) : w.remoteHas g = true ↔ w.remoteBase ≤ g ∧ g < w.remoteBase + w.size := by
  simp [Window.remoteHas]

theorem owner_none_iff (s : State) (g : Nat) :
    s.owner g = none ↔ ∀ w : WinIdx, s.windows[w].state ≠ .off → s.windows[w].localHas g = false := by
  simp [State.owner, allWindows, enabled_iff]

theorem remoteOwner_none_iff (s : State) (g : Nat) :
    s.remoteOwner g = none ↔ ∀ w : WinIdx, s.windows[w].state ≠ .off → s.windows[w].remoteHas g = false := by
  simp [State.remoteOwner, allWindows, enabled_iff]

/-- Two enabled windows of a legal table share no remote granule (R5). -/
theorem WindowsInv.remoteApart {s : State} (hs : WindowsInv s) {v w : WinIdx} (hvw : v ≠ w)
    (hv : s.windows[v].enabled = true) (hw : s.windows[w].enabled = true) {g : Nat}
    (hg : s.windows[v].remoteHas g = true) : s.windows[w].remoteHas g = false := by
  have h := (hs.2.1 v w hvw hv hw).2
  rw [← Bool.not_eq_true] at h ⊢
  exact fun hg' => h ((rangesShare_iff _ _ _ _).2 ⟨g, (remoteHas_iff _ _).1 hg, (remoteHas_iff _ _).1 hg'⟩)

/-- In a legal table the window that holds a granule is its owner (R2). -/
theorem owner_of_localHas {s : State} (hs : WindowsInv s) {w : WinIdx} {g : Nat} (hw : s.windows[w].state ≠ .off)
    (hg : s.windows[w].localHas g = true) : s.owner g = some w := by
  cases ho : s.owner g with
  | none => rw [(owner_none_iff s g).1 ho w hw] at hg; exact nomatch hg
  | some v =>
    obtain ⟨hen, hl⟩ := owner_some ho
    by_contra hne
    have hvw : v ≠ w := fun h => hne (congrArg some h)
    rw [hs.apart hvw hen ((enabled_iff _).2 hw) hl] at hg
    exact nomatch hg

theorem remoteOwner_of_remoteHas {s : State} (hs : WindowsInv s) {w : WinIdx} {g : Nat}
    (hw : s.windows[w].state ≠ .off) (hg : s.windows[w].remoteHas g = true) : s.remoteOwner g = some w := by
  cases ho : s.remoteOwner g with
  | none => rw [(remoteOwner_none_iff s g).1 ho w hw] at hg; exact nomatch hg
  | some v =>
    obtain ⟨hen, hl⟩ := remoteOwner_some ho
    by_contra hne
    have hvw : v ≠ w := fun h => hne (congrArg some h)
    rw [hs.remoteApart hvw hen ((enabled_iff _).2 hw) hl] at hg
    exact nomatch hg

/-! ### Translation -/

/-- A line carried from the range at granule `a` to the range at granule `b`: translation and its reverse (R3). -/
def shiftLine (a b : Nat) (l : Line) : Line :=
  l - BitVec.ofNat 34 (a * Config.linesPerGranule) + BitVec.ofNat 34 (b * Config.linesPerGranule)

theorem translate_eq (w : Window) (l : Line) : w.translate l = shiftLine w.localBase w.remoteBase l := rfl

theorem untranslate_eq (w : Window) (l : Line) : w.untranslate l = shiftLine w.remoteBase w.localBase l := rfl

theorem granule_eq (l : Line) : l.granule = l.toNat / 1024 := rfl

/-- A line of the range at `a` keeps its place in the range at `b`. -/
theorem shiftLine_toNat {a b n : Nat} {l : Line} (hb : b + n ≤ 16777216) (hl : a ≤ l.granule)
    (hu : l.granule < a + n) : (shiftLine a b l).toNat + a * 1024 = l.toNat + b * 1024 := by
  rw [granule_eq] at hl hu
  have hlt := l.isLt
  simp only [shiftLine, Config.linesPerGranule, BitVec.toNat_add, BitVec.toNat_sub, BitVec.toNat_ofNat]
  omega

theorem shiftLine_granule {a b n : Nat} {l : Line} (hb : b + n ≤ 16777216) (hl : a ≤ l.granule)
    (hu : l.granule < a + n) : b ≤ (shiftLine a b l).granule ∧ (shiftLine a b l).granule < b + n := by
  have h := shiftLine_toNat hb hl hu
  rw [granule_eq] at hl hu ⊢
  omega

theorem shiftLine_shiftLine {a b n : Nat} {l : Line} (ha : a + n ≤ 16777216) (hb : b + n ≤ 16777216) (hl : a ≤ l.granule)
    (hu : l.granule < a + n) : shiftLine b a (shiftLine a b l) = l := by
  obtain ⟨hl', hu'⟩ := shiftLine_granule hb hl hu
  have h := shiftLine_toNat hb hl hu
  have h' := shiftLine_toNat ha hl' hu'
  exact BitVec.eq_of_toNat_eq (by omega)

/-- Settles O18: ownership by the apartness of a legal table, translation by the arithmetic of `shiftLine`. -/
theorem windowsOwnAndTranslateLines : Obligations.WindowsOwnAndTranslateLines := by
  refine ⟨fun s g => ⟨fun w h => ?_, owner_none_iff s g, fun hs w hw hg => owner_of_localHas hs hw hg, fun w h => ?_,
    remoteOwner_none_iff s g, fun hs w hw hg => remoteOwner_of_remoteHas hs hw hg⟩, fun w l hw => ⟨fun h => ?_, fun h => ?_⟩⟩
  · exact ⟨(enabled_iff _).1 (owner_some h).1, (owner_some h).2⟩
  · exact ⟨(enabled_iff _).1 (remoteOwner_some h).1, (remoteOwner_some h).2⟩
  · obtain ⟨-, hl, hr, -⟩ := hw
    obtain ⟨h1, h2⟩ := (localHas_iff _ _).1 h
    rw [translate_eq, untranslate_eq, remoteHas_iff]
    exact ⟨shiftLine_toNat hr h1 h2, shiftLine_granule hr h1 h2, shiftLine_shiftLine hl hr h1 h2⟩
  · obtain ⟨-, hl, hr, -⟩ := hw
    obtain ⟨h1, h2⟩ := (remoteHas_iff _ _).1 h
    rw [untranslate_eq, translate_eq, localHas_iff]
    exact ⟨shiftLine_granule hl h1 h2, shiftLine_shiftLine hr hl h1 h2⟩

end Sys2Proof.Machine
end

section
/-! The host head and the grants: the classes and conditions of R9 and R47, the merge of R26, and what a grant puts on the
port. -/

namespace Sys2Proof.Machine

/-! ### Classes and conditions -/

theorem classify_none {s : State} {line : Line} (h : s.owner line.granule = none) : s.classify line = .pass := by
  unfold State.classify; rw [h]

theorem classify_source {s : State} {line : Line} {w : WinIdx} (h : s.owner line.granule = some w)
    (hr : s.role = .source) : s.classify line = if s.windows[w].capturing then .capture w else .track w := by
  unfold State.classify; simp only [h, hr]

theorem classify_isolated {s : State} {line : Line} {w : WinIdx} (h : s.owner line.granule = some w)
    (hr : s.role = .isolated) : s.classify line = .track w := by
  unfold State.classify; simp only [h, hr]

theorem classify_sinkSide {s : State} {line : Line} {w : WinIdx} (h : s.owner line.granule = some w)
    (hr : s.role = .sink ∨ s.role = .draining) :
    s.classify line = if s.service.override then .pass else .fence := by
  unfold State.classify
  rcases hr with hr | hr <;> simp only [h, hr]

theorem hazard_iff (s : State) (line : Line) :
    s.hazard line = true ↔ (s.role = .sink ∨ s.role = .draining) ∧ ∃ e ∈ s.rx.applyQueue, e.target = line := by
  simp [State.hazard]

/-- A CAPTURE write merges exactly into a tail that meets the eight conditions of R26, and never from a MARKER window
(R26, R27). -/
theorem merges_iff (s : State) (w : WinIdx) (line : Line) (poisoned : Bool) :
    s.merges w line poisoned = true ↔
      s.windows[w].kind = .mirror ∧ poisoned = false ∧
        ∃ e, s.journal.entries.getLast? = some e ∧ e.kind = .update ∧ e.everSent = false ∧ e.poison = false ∧
          e.heldTags.length < 16 ∧ e.window = w ∧ e.localLine = line ∧ e.target = s.windows[w].translate line := by
  unfold State.merges
  cases s.journal.entries.getLast? with
  | none => simp
  | some e =>
    simp only [Bool.and_eq_true, beq_iff_eq, Bool.not_eq_true', decide_eq_true_eq, Option.some.injEq, exists_eq_left']
    unfold Config.heldTagLimit
    tauto

theorem hasRoom_iff (s : State) (w : WinIdx) (line : Line) (poisoned : Bool) :
    s.hasRoom w line poisoned = true ↔ s.merges w line poisoned = true ∨ s.journal.entries.length < 512 := by
  simp only [State.hasRoom, Bool.or_eq_true, decide_eq_true_eq]
  rfl

theorem condition_read {s : State} {r : QueuedRequest} (h : r.op = .read) :
    s.condition r = if s.hazard r.line then .hazard else .ready := by
  unfold State.condition; simp only [h]

theorem condition_empty {s : State} {r : QueuedRequest} {data : LineData} {p : Bool} (h : r.op = .write 0 data p) :
    s.condition r = .answered .okay := by
  unfold State.condition; simp only [h, if_true]

theorem condition_fence {s : State} {r : QueuedRequest} {mask : Mask} {data : LineData} {p : Bool}
    (h : r.op = .write mask data p) (hm : mask ≠ 0) (hc : s.classify r.line = .fence) :
    s.condition r = .answered .fenced := by
  unfold State.condition; simp only [h, if_neg hm, hc]

theorem condition_pass {s : State} {r : QueuedRequest} {mask : Mask} {data : LineData} {p : Bool}
    (h : r.op = .write mask data p) (hm : mask ≠ 0) (hc : s.classify r.line = .pass) : s.condition r = .ready := by
  unfold State.condition; simp only [h, if_neg hm, hc]

theorem condition_track {s : State} {r : QueuedRequest} {mask : Mask} {data : LineData} {p : Bool} {w : WinIdx}
    (h : r.op = .write mask data p) (hm : mask ≠ 0) (hc : s.classify r.line = .track w) : s.condition r = .ready := by
  unfold State.condition; simp only [h, if_neg hm, hc]

theorem condition_capture {s : State} {r : QueuedRequest} {mask : Mask} {data : LineData} {p : Bool} {w : WinIdx}
    (h : r.op = .write mask data p) (hm : mask ≠ 0) (hc : s.classify r.line = .capture w) :
    s.condition r = if s.hasRoom w r.line p then .ready else .stalled := by
  unfold State.condition; simp only [h, if_neg hm, hc]

/-- Settles O25: the table of R9, then the table of R47 by the kind of the request. -/
theorem hostHeadFollowsTheTables : Obligations.HostHeadFollowsTheTables := by
  refine ⟨fun _ => rfl, fun s line => ⟨classify_none, fun w h => ⟨fun hr hw => ?_, fun hr hw => ?_, fun hr => ?_,
    fun hr ho => ?_, fun hr ho => ?_⟩⟩, fun s r => ⟨fun h => ⟨fun hz => ?_, fun hz => ?_⟩, fun mask data p h =>
      ⟨fun hm => ?_, fun hm hc => ?_, fun hm hc => ?_, fun w hm hc => ?_, fun w hm hc mergeable hmerge => ?_⟩⟩⟩
  · rw [classify_source h hr, if_neg (by rw [capturing_iff, hw]; decide)]
  · rw [classify_source h hr, if_pos ((capturing_iff _).2 hw)]
  · exact classify_isolated h hr
  · rw [classify_sinkSide h hr, ho]; rfl
  · rw [classify_sinkSide h hr, ho]; rfl
  · rw [condition_read h, if_pos ((hazard_iff _ _).2 hz)]
  · rw [condition_read h, if_neg (fun hz' => hz ((hazard_iff _ _).1 hz'))]
  · subst hm; exact condition_empty h
  · exact condition_fence h hm hc
  · exact condition_pass h hm hc
  · exact condition_track h hm hc
  · rw [condition_capture h hm hc]
    have hroom : s.hasRoom w r.line p = true ↔ mergeable ∨ s.journal.entries.length < 512 := by
      rw [hasRoom_iff, merges_iff, hmerge]
    refine ⟨fun h => if_pos (hroom.2 h), fun h1 h2 => if_neg ?_⟩
    rw [hroom, not_or, not_lt]
    exact ⟨h1, h2⟩

/-! ### The capture -/

theorem modify_last {α : Type} (front : List α) (e : α) (f : α → α) :
    (front ++ [e]).modify ((front ++ [e]).length - 1) f = front ++ [f e] := by
  induction front with
  | nil => rfl
  | cons a l ih => simpa using ih

/-- A captured write that merges changes the tail alone (R26). -/
theorem capture_merged {s : State} {w : WinIdx} {line : Line} {mask : Mask} {data : LineData} {p : Bool}
    {front : List JournalEntry} {e : JournalEntry} (hj : s.journal.entries = front ++ [e])
    (h : s.merges w line p = true) :
    s.capture w line mask data p = s.withEntries (front ++ [e.merge mask data]) := by
  unfold State.capture
  rw [if_pos h, hj, modify_last]

theorem capture_appended {s : State} {w : WinIdx} {line : Line} {mask : Mask} {data : LineData} {p : Bool}
    (h : s.merges w line p = false) :
    s.capture w line mask data p =
      s.withJournal
        { s.journal with
          entries :=
            s.journal.entries ++
              [{ seq := s.journal.nextSeq
                 kind := if s.windows[w].kind = .mirror then .update else .mark
                 window := w
                 localLine := line
                 target := s.windows[w].translate line
                 mask := mask
                 data := data
                 poison := p
                 heldTags := []
                 sent := false
                 reported := false
                 everSent := false
                 isOpen := true }]
          nextSeq := s.journal.nextSeq + 1 } := by
  unfold State.capture
  rw [if_neg (by simp [h])]
  rfl

theorem tailSeq_append {j : Journal} {front : List JournalEntry} {e : JournalEntry} (h : j.entries = front ++ [e]) :
    j.tailSeq = e.seq := by
  unfold Journal.tailSeq
  rw [h, List.getLast?_append]
  rfl

/-! ### Grants -/

theorem grantTo_host {s : State} {r : QueuedRequest} {rest : List QueuedRequest} (h : s.host.queue = r :: rest) :
    s.grantTo .host = s.grantHost r rest := by
  unfold State.grantTo; simp only [h]

/-- The state in which a granted head acts: it left the queue and no stall is timed (R58). -/
def State.headTaken (s : State) (rest : List QueuedRequest) : State :=
  (s.withHost { s.host with queue := rest }).withJournal { s.journal with stallStart := none }

theorem grantHost_capture {s : State} {r : QueuedRequest} {rest : List QueuedRequest} {mask : Mask} {data : LineData}
    {p : Bool} {w : WinIdx} (hop : r.op = .write mask data p) (hc : s.classify r.line = .capture w) :
    s.grantHost r rest =
      ((s.headTaken rest).capture w r.line mask data p).putHostWrite r mask data p
        (.capture s.windows[w].cls ((s.headTaken rest).capture w r.line mask data p).journal.tailSeq) := by
  unfold State.grantHost
  simp only [hop, hc]
  rfl

theorem grantTo_sweep {s : State} {p : SweepPosition} (h : s.sweep.position = some p) :
    s.grantTo .sweep = s.grantSweep p := by
  unfold State.grantTo; simp only [h]

theorem grantTo_apply {s : State} {e : ApplyEntry} {rest : List ApplyEntry} (h : s.rx.applyQueue = e :: rest) :
    s.grantTo .apply = s.grantApply e := by
  unfold State.grantTo; simp only [h]

theorem classifyApply_sinkSide {s : State} {line : Line} (h : s.role = .sink ∨ s.role = .draining) :
    s.classifyApply line = s := by
  unfold State.classifyApply
  rw [if_neg]
  rcases h with h | h <;> rw [h] <;> decide

theorem classifyApply_none {s : State} {line : Line} (h : s.owner line.granule = none) : s.classifyApply line = s := by
  unfold State.classifyApply
  simp only [h, ite_self]

theorem classifyApply_some {s : State} {line : Line} {w : WinIdx} (hr : s.role = .source ∨ s.role = .isolated)
    (h : s.owner line.granule = some w) :
    s.classifyApply line =
      if s.windows[w].capturing then (s.suspendWindow w .role).markDirty w line.granule
      else s.markDirty w line.granule := by
  unfold State.classifyApply
  rw [if_pos hr]
  simp only [h]

theorem putOnPort_eq {v s : State} (h : v.port = s.port) (line : Line) (access : Access) (owner : Owner) :
    v.putOnPort line access owner =
      v.withPort { s.port with op := some { line := line, access := access, owner := owner } } := by
  unfold State.putOnPort; rw [h]

theorem grantApply_eq (s : State) (e : ApplyEntry) :
    s.grantApply e =
      (s.classifyApply e.target).withPort
        { s.port with
          op :=
            some
              { line := e.target, access := .write e.mask e.data e.poison
                owner := .apply e (s.owner e.target.granule) false } } := by
  have hport : (s.classifyApply e.target).port = s.port := by
    unfold State.classifyApply
    repeat' split
    · rfl
    · rw [markDirty_eq, suspendWindow_eq]; rfl
    · rw [markDirty_eq]; rfl
    · rfl
  exact putOnPort_eq hport _ _ _

/-- Settles O30: the host grant by the class of its write, the sweep grant, and the apply grant by the role. -/
theorem grantsStartTheOperation : Obligations.GrantsStartTheOperation := by
  refine ⟨fun s r rest hq => ⟨fun hop => ?_, fun mask data p hop => ⟨fun hc => ?_, fun w hc => ?_,
    fun w hc mergeable hmerge => ⟨fun front e hj he => ?_, fun hnot => ?_⟩⟩⟩, fun s p hp => ?_,
    fun s e rest hq => ⟨fun hr => ?_, fun hr => ⟨fun ho => ?_, fun w ho => ⟨fun hw => ?_, fun hw => ?_⟩⟩⟩⟩
  · rw [grantTo_host hq, State.grantHost, hop]
    rfl
  · rw [grantTo_host hq, State.grantHost, hop]
    simp only [hc]
    rfl
  · rw [grantTo_host hq, State.grantHost, hop]
    simp only [hc]
    exact putOnPort_eq (by rw [markDirty_eq]; rfl) _ _ _
  · have hm : (s.headTaken rest).merges w r.line p = true := by
      show s.merges w r.line p = true
      rw [merges_iff]
      have h := (hmerge e).1 he
      exact ⟨h.1, h.2.1, e, by rw [hj, List.getLast?_append]; rfl, h.2.2⟩
    rw [grantTo_host hq, grantHost_capture hop hc, capture_merged (s := s.headTaken rest) hj hm, tailSeq_append (front := front) rfl]
    rfl
  · have hm : (s.headTaken rest).merges w r.line p = false := by
      show s.merges w r.line p = false
      rw [← Bool.not_eq_true, merges_iff]
      rintro ⟨hk, hp, e, hlast, he⟩
      obtain ⟨front, hfront⟩ := List.getLast?_eq_some_iff.1 hlast
      exact hnot front e hfront ((hmerge e).2 ⟨hk, hp, he⟩)
    rw [grantTo_host hq, grantHost_capture hop hc, capture_appended hm, tailSeq_append (front := s.journal.entries) rfl]
    rfl
  · rw [grantTo_sweep hp]
    rfl
  · rw [grantTo_apply hq, grantApply_eq, classifyApply_sinkSide hr]
  · rw [grantTo_apply hq, grantApply_eq, classifyApply_none ho]
  · rw [grantTo_apply hq, grantApply_eq, classifyApply_some hr ho, if_neg (by rw [hw]; decide)]
  · rw [grantTo_apply hq, grantApply_eq, classifyApply_some hr ho, if_pos hw]

end Sys2Proof.Machine
end

section
/-! Cold reset, link loss, and the REPORT. -/

namespace Sys2Proof.Machine

/-! ### Cold reset -/

theorem exec_coldReset_asserted (s : State) : exec (.coldReset .asserted) s = .next (s.prompt.cold true) := rfl

theorem exec_coldReset_held {s : State} (signal : LaneSignal) (h : s.coldPin = true) :
    exec (.coldReset (.released signal)) s = .next ((s.withLink { s.link with signal := signal }).cold false) :=
  congrArg Host.Outcome.next (if_pos h)

theorem exec_coldReset_released {s : State} (signal : LaneSignal) (h : s.coldPin = false) :
    exec (.coldReset (.released signal)) s = .next s.prompt :=
  congrArg Host.Outcome.next (if_neg (by rw [h]; decide))

/-- Settles O3: both edges lead to `State.cold`, after what was due at once. -/
theorem coldResetSetsEveryField : Obligations.ColdResetSetsEveryField := by
  refine ⟨⟨cold_values State.reset false, rfl⟩, fun s => ⟨?_, fun signal => ⟨fun h => ?_, fun h => ?_⟩⟩⟩
  · obtain ⟨-, hline, -, -, -, hpending, -, more, hmore⟩ := prompt_aside s
    refine ⟨_, exec_coldReset_asserted s, cold_values _ true, rfl, hline, ⟨more, hmore.symm⟩, fun h => ?_, hpending⟩
    have hprompt : s.prompt = s := h.elim prompt_held prompt_ready
    show s.prompt.host.responses = s.host.responses
    rw [hprompt]
  · exact ⟨_, exec_coldReset_held signal h, cold_values _ false, rfl, rfl, rfl, rfl, rfl⟩
  · rw [exec_coldReset_released signal h.1, prompt_ready h]

/-! ### Link loss -/

theorem reached_iff (now : Time) (start : Option Time) (limit : Nat) :
    reached now start limit = true ↔ ∃ t, start = some t ∧ limit ≤ (now - t).toNat := by
  cases start with
  | none => simp [reached]
  | some t =>
    show decide (limit ≤ (now - t).toNat) = true ↔ _
    simp only [decide_eq_true_eq, Option.some.injEq, exists_eq_left']

theorem linkLoss_notUp {s : State} (cause : SuspendCause) (h : s.link.state ≠ .up) : s.linkLoss cause = s := if_neg h

theorem linkLoss_source {s : State} (cause : SuspendCause) (h : s.link.state = .up) (hr : s.role = .source) :
    s.linkLoss cause =
      ((((s.leaveLink.raise .linkDown).suspendWhere Window.capturing cause).convert).withSeq
        { s.seq with ackStart := none, lastSend := none }) := by
  have hseq : (((s.leaveLink.raise .linkDown).suspendWhere Window.capturing cause).convert).seq = s.seq := by
    obtain ⟨-, -, -, -, -, hc, -⟩ := convert_fields ((s.leaveLink.raise .linkDown).suspendWhere Window.capturing cause)
    obtain ⟨-, -, -, -, -, hs, -⟩ := suspendWhere_fields (s.leaveLink.raise .linkDown) Window.capturing cause
    exact hc.trans hs
  unfold State.linkLoss
  simp only [h, hr, if_true]
  unfold State.sourceLoss
  simp only
  rw [hseq]

theorem linkLoss_sink {s : State} (cause : SuspendCause) (h : s.link.state = .up) (hr : s.role = .sink) :
    s.linkLoss cause = (s.leaveLink.raise .linkDown).sinkLoss := by
  unfold State.linkLoss
  simp only [h, hr, if_true]

theorem linkLoss_other {s : State} (cause : SuspendCause) (h : s.link.state = .up)
    (hr : s.role = .isolated ∨ s.role = .draining) : s.linkLoss cause = s.leaveLink.raise .linkDown := by
  unfold State.linkLoss
  rcases hr with hr | hr <;> simp only [h, hr, if_true]

theorem silenceDue_iff (s : State) :
    s.silenceDue = true ↔
      s.link.state = .up ∧ ∃ start, s.link.lastReceipt = some start ∧ s.service.timers.tQuiet ≤ (s.time - start).toNat := by
  simp only [State.silenceDue, Bool.and_eq_true, beq_iff_eq, reached_iff]

theorem exec_silenceExpiry {s : State} (h : Ready s) :
    exec .silenceExpiry s = .next (if s.silenceDue then (s.linkLoss .link).settle else s) :=
  congrArg Host.Outcome.next (take_ready _ h)

/-- Settles O40: link loss by the role, and the timer that takes it. -/
theorem linkLossEndsTheSession : Obligations.LinkLossEndsTheSession := by
  refine ⟨fun s cause => ⟨linkLoss_notUp cause, fun h => ⟨fun hr => ?_, linkLoss_sink cause h, linkLoss_other cause h⟩⟩,
    fun s hready => ⟨fun hup hquiet => ?_, fun hnot => ?_⟩⟩
  · rw [linkLoss_source cause h hr]
    exact ⟨rfl, rfl⟩
  · rw [exec_silenceExpiry hready, if_pos ((silenceDue_iff s).2 ⟨hup, hquiet⟩)]
  · rw [exec_silenceExpiry hready, if_neg (fun h => hnot ((silenceDue_iff s).1 h))]

/-! ### The REPORT -/

theorem noteReceipt_up {s : State} (h : s.link.state = .up) :
    s.noteReceipt = s.withLink { s.link with lastReceipt := some s.time } := if_pos h

theorem receives_iff (s : State) : s.receives = true ↔ s.link.signal = .present ∧ s.link.test.running = false := by
  simp [State.receives]

theorem toSequencer_iff (s : State) : s.toSequencer = true ↔ s.inSession := by
  simp [State.toSequencer, State.inSession]

/-- A REPORT at a SOURCE in UP: heard, and acted on in the present epoch (R100, R129). -/
theorem exec_receiveReport {s : State} (r : Report) (h : Ready s) (hin : s.inSession) (hsignal : s.link.signal = .present)
    (htest : s.link.test.running = false) :
    exec (.receiveReport r) s =
      .next
        (if r.epoch = s.link.epoch then
          ((s.withLink { s.link with lastReceipt := some s.time }).takeReport r).settle
        else s.withLink { s.link with lastReceipt := some s.time }) := by
  refine congrArg Host.Outcome.next ((take_ready _ h).trans ?_)
  simp only [(receives_iff s).2 ⟨hsignal, htest⟩, if_true, noteReceipt_up hin.2]
  have hseq : (s.withLink { s.link with lastReceipt := some s.time }).toSequencer = true := (toSequencer_iff _).2 hin
  simp only [hseq, true_and]
  rfl

theorem markReported_none {s : State} {q : Seq} (h : ∀ e ∈ s.journal.entries, e.seq ≠ q) : s.markReported q = s := by
  have hmap : (s.journal.entries.map fun e => if e.seq = q then { e with reported := true } else e) = s.journal.entries :=
    (List.map_congr_left fun e he => if_neg (h e he)).trans (List.map_id _)
  unfold State.markReported
  rw [hmap]
  rfl

theorem reportAffects_entry {s : State} {r : Report} {e : JournalEntry}
    (h : s.journal.entries.find? (fun x => x.seq = r.seq) = some e) :
    s.reportAffects r = (s.owner e.localLine.granule).map fun w => (w, e.localLine.granule) := by
  have h' : s.journal.entries.find? (fun x => x.seq == r.seq) = some e := h
  unfold State.reportAffects
  simp only [h']

theorem reportAffects_target {s : State} {r : Report} (h : ∀ e ∈ s.journal.entries, e.seq ≠ r.seq) :
    s.reportAffects r =
      (s.remoteOwner r.target.granule).map fun w => (w, (s.windows[w].untranslate r.target).granule) := by
  have h' : s.journal.entries.find? (fun x => x.seq == r.seq) = none := by simpa using h
  unfold State.reportAffects
  simp only [h']

/-- What a REPORT does after its window part (R129). -/
theorem takeReport_eq {s v : State} {r : Report} {affected : Option (WinIdx × Nat)} (ha : s.reportAffects r = affected)
    (hv : (s.markReported r.seq).reportWindow affected = v) (hseq : v.seq = s.seq) (hlink : v.link = s.link) :
    s.takeReport r =
      ((v.withSeq { s.seq with processed := s.seq.processed + 1 }).offerFault .partnerReport (affected.map Prod.fst)
        (some r.target) (some r.seq) (some s.link.epoch)).raise .partnerFault := by
  unfold State.takeReport
  simp only [ha, hv, hseq, State.withSeq_link, hlink]

/-- The window part of a REPORT leaves the sequencer and the link (R15). -/
theorem suspendMark_fields (s : State) (w : WinIdx) (cause : SuspendCause) (g : Nat) :
    ((s.suspendWindow w cause).markDirty w g).seq = s.seq ∧ ((s.suspendWindow w cause).markDirty w g).link = s.link := by
  rw [markDirty_eq, suspendWindow_eq]
  exact ⟨rfl, rfl⟩

/-- Settles O48: the affected window by the entry or by the target, and then `takeReport_eq`. -/
theorem reportSuspendsTheAffectedWindow : Obligations.ReportSuspendsTheAffectedWindow := by
  intro r s hin hready hsignal htest
  simp only
  rw [exec_receiveReport r hready hin hsignal htest]
  refine ⟨fun he => by rw [if_neg he], fun he => ?_⟩
  rw [if_pos he]
  refine ⟨fun e hfind => ⟨fun ho => ?_, fun w ho => ?_⟩, fun hnone => ⟨fun ho => ?_, fun w ho => ?_⟩⟩
  · have ha := (reportAffects_entry (s := s.withLink { s.link with lastReceipt := some s.time }) hfind).trans
      (congrArg _ ho)
    rw [takeReport_eq ha rfl rfl rfl]
    rfl
  · have ha := (reportAffects_entry (s := s.withLink { s.link with lastReceipt := some s.time }) hfind).trans
      (congrArg _ ho)
    obtain ⟨hseq, hlink⟩ := suspendMark_fields
      ((s.withLink { s.link with lastReceipt := some s.time }).markReported r.seq) w .partner e.localLine.granule
    rw [takeReport_eq ha rfl hseq hlink]
    rfl
  · have ha := (reportAffects_target (s := s.withLink { s.link with lastReceipt := some s.time }) hnone).trans
      (congrArg _ ho)
    rw [takeReport_eq ha (v := s.withLink { s.link with lastReceipt := some s.time }) (markReported_none hnone) rfl rfl]
    rfl
  · have ha := (reportAffects_target (s := s.withLink { s.link with lastReceipt := some s.time }) hnone).trans
      (congrArg _ ho)
    obtain ⟨hseq, hlink⟩ := suspendMark_fields (s.withLink { s.link with lastReceipt := some s.time }) w .partner
      (s.windows[w].untranslate r.target).granule
    rw [takeReport_eq ha (congrArg (fun u : State => u.reportWindow _) (markReported_none hnone)) hseq hlink]
    rfl

end Sys2Proof.Machine
end

section
/-! The stall of the host head: what `settle` leaves of the head and of the stall start, and the overflow suspension. -/

namespace Sys2Proof.Machine

/-! ### The head after `settle` -/

/-- A head that lacks room is a write with a nonempty mask (R47). -/
theorem write_of_stalled {s : State} {r : QueuedRequest} (h : s.condition r = .stalled) :
    ∃ mask data p, r.op = .write mask data p ∧ mask ≠ 0 := by
  cases hop : r.op with
  | read =>
    rw [condition_read hop] at h
    split at h <;> exact nomatch h
  | write mask data p =>
    refine ⟨mask, data, p, rfl, ?_⟩
    rintro rfl
    exact nomatch (condition_empty hop).symm.trans h

/-- While no head lacks room the stall start is cleared (R33). -/
theorem timeStall_none {s : State} (h : s.headCondition ≠ some .stalled) : s.timeStall.journal.stallStart = none := by
  unfold State.timeStall
  rw [if_neg h]
  rfl

/-- After `settle` no stall is timed, if the head that stays does not lack room (R33). -/
theorem settleWith_stallStart {s : State} {probe : Bool}
    (h : ∀ x, SameButSettled s x → x.host = (s.settleWith probe).host → x.headCondition ≠ some .stalled) :
    (s.settleWith probe).journal.stallStart = none := by
  have hkeep (u : State) : u.choosePosition.clearPassedOver.journal = u.journal := by
    rw [clearPassedOver_eq, choosePosition_eq]; rfl
  have hhost (u : State) : u.timeStall.choosePosition.clearPassedOver.host = u.host := by
    rw [clearPassedOver_host, choosePosition_host, timeStall_host]
  unfold State.settleWith at h ⊢
  simp only at h ⊢
  rw [hkeep]
  refine timeStall_none (h _ ?_ (hhost _).symm)
  exact (enterHail_same s).trans ((answerHeads_same _ _).trans (chooseFrame_same _ _))

theorem enterHail_host (s : State) : s.enterHail.host = s.host := by rw [enterHail_eq]; rfl

/-- A head that is not answered stays, and nothing else of the Host Port changes (R47). -/
theorem settleWith_host_stays {s : State} {r : QueuedRequest} {rest : List QueuedRequest} (probe : Bool)
    (hq : s.host.queue = r :: rest) (h : ∀ st, s.condition r ≠ .answered st) : (s.settleWith probe).host = s.host := by
  have hc : s.enterHail.condition r = s.condition r := by
    rw [enterHail_eq]; exact condition_congr rfl rfl rfl rfl rfl r
  rw [settleWith_host, hq, answerHeads_stays r rest s.enterHail (by rwa [hc]), State.withHost_host, enterHail_host, ← hq]

/-- With a busy lane `settle` sends no entry (R94). -/
theorem settleWith_entries_busy {s : State} (probe : Bool) (h : s.link.lane ≠ none) :
    (s.settleWith probe).journal.entries = s.journal.entries := by
  have hentries : s.enterHail.journal = s.journal := by rw [enterHail_eq]; rfl
  have hlane : s.enterHail.link.lane = s.link.lane := by unfold State.enterHail; split <;> rfl
  obtain ⟨-, he, -, -⟩ := settleWith_lane s probe
  rw [he]
  unfold State.chooseFrame
  split
  · rw [hentries]
  · rename_i hl; exact absurd (hlane.symm.trans hl) h

theorem SameButSettled.entries_length {u t : State} (h : SameButSettled u t) :
    t.journal.entries.length = u.journal.entries.length := by
  obtain ⟨-, -, -, -, -, -, -, -, -, -, -, -, -, -, -, -, -, -, -, -, -, -, -, -, -, he⟩ := h
  simpa using congrArg List.length he

theorem SameButSettled.role_eq {u t : State} (h : SameButSettled u t) : t.role = u.role := by
  obtain ⟨-, -, -, -, -, -, -, -, -, -, -, -, -, -, -, -, -, -, -, hr, -⟩ := h
  exact hr

theorem SameButSettled.service_eq {u t : State} (h : SameButSettled u t) : t.service = u.service := by
  obtain ⟨-, -, -, -, -, -, -, -, -, -, -, -, -, -, -, -, -, -, -, -, hs, -⟩ := h
  exact hs

/-- Without a position and without a SWEEPING window the sweep engine stays as it is. -/
theorem settleWith_sweep_none {s : State} (probe : Bool) (hp : s.sweep.position = none)
    (hw : ∀ w : WinIdx, s.windows[w].state ≠ .sweeping) : (s.settleWith probe).sweep = s.sweep := by
  rw [settleWith_sweep, choosePosition_eq, choosePosition_none s hw hp, ← hp]
  rfl

/-! ### The overflow suspension -/

theorem owner_congr {s t : State}
    (h : ∀ w : WinIdx, t.windows[w].enabled = s.windows[w].enabled ∧ t.windows[w].localBase = s.windows[w].localBase ∧
      t.windows[w].size = s.windows[w].size) (g : Nat) : t.owner g = s.owner g := by
  unfold State.owner
  congr 1
  funext w
  obtain ⟨hen, hb, hs⟩ := h w
  unfold Window.localHas
  rw [hen, hb, hs]

/-- Suspending the capturing windows leaves the owner of every granule (R2, R13). -/
theorem owner_suspendCapturing {s t : State} (cause : SuspendCause)
    (ht : t.windows = (s.suspendWhere Window.capturing cause).windows) (g : Nat) : t.owner g = s.owner g := by
  refine owner_congr (fun w => ?_) g
  rw [ht, suspendWhere_get]
  split
  · rename_i h; exact ⟨(enabled_of_capturing h).symm, rfl, rfl⟩
  · exact ⟨rfl, rfl, rfl⟩

/-- After the suspension the write that lacked room is a TRACK write, which is READY (R9, R34). -/
theorem condition_after_suspension {s t : State} {r : QueuedRequest} {w : WinIdx} (cause : SuspendCause)
    (hr : t.role = s.role) (ht : t.windows = (s.suspendWhere Window.capturing cause).windows)
    (hc : s.classify r.line = .capture w) (hstall : s.condition r = .stalled) : t.condition r = .ready := by
  obtain ⟨hrole, howner, -⟩ := classify_capture hc
  obtain ⟨mask, data, p, hop, hm⟩ := write_of_stalled hstall
  refine condition_track (w := w) hop hm ?_
  have hnone := suspendWhere_capturing_none s cause w
  rw [classify_source ((owner_suspendCapturing cause ht _).trans howner) (hr.trans hrole), ht, hnone]
  rfl

theorem stallDue_iff (s : State) :
    s.stallDue = true ↔
      s.headCondition = some .stalled ∧
        ∃ start, s.journal.stallStart = some start ∧ s.service.timers.tStall ≤ (s.time - start).toNat := by
  simp only [State.stallDue, Bool.and_eq_true, beq_iff_eq, reached_iff]

theorem exec_stallExpiry {s : State} (h : Ready s) : exec .stallExpiry s = .next s.expireStall :=
  congrArg Host.Outcome.next (take_ready _ h)

theorem expireStall_due {s : State} {r : QueuedRequest} {rest : List QueuedRequest} {w : WinIdx}
    (h : s.stallDue = true) (hq : s.host.queue = r :: rest) (hc : s.classify r.line = .capture w) :
    s.expireStall = (s.overflowSuspend w r.line).settle := by
  unfold State.expireStall
  simp only [h, if_true, hq, hc]

theorem countUp_eq (n : BitVec 32) : countUp n = if n = 0xFFFFFFFF then 0xFFFFFFFF else n + 1 := by
  have hmax : BitVec.allOnes 32 = 0xFFFFFFFF := by decide
  unfold countUp
  rw [hmax]
  split
  · assumption
  · rfl

/-- The overflow suspension outside the service port (R34). -/
theorem overflowSuspend_eq (s : State) (w : WinIdx) (line : Line) :
    s.overflowSuspend w line =
      (s.suspendWhere Window.capturing .overflow).withService (s.overflowSuspend w line).service := by
  unfold State.overflowSuspend State.count State.raise State.offerFault
  rfl

theorem offer_room {v : Service} (r : FaultRecord) (h : v.faults.length < 8) :
    v.offer r = { v.raise .faultLogged with faults := v.faults ++ [r] } := if_pos h

theorem offer_full {v : Service} (r : FaultRecord) (h : 8 ≤ v.faults.length) :
    v.offer r = { v.raise .faultLogged with overrun := true } := if_neg (not_lt.2 h)

/-- Where a window captures, the suspension raises WINDOW_SUSPENDED and leaves the rest of the service port (R13). -/
theorem suspendCapturing_service {s : State} {w : WinIdx} (cause : SuspendCause) (h : s.windows[w].capturing = true) :
    (s.suspendWhere Window.capturing cause).service =
      { s.service with events := s.service.events ||| EventCause.windowSuspended.flag } := by
  rw [suspendWhere_eq]
  simp only [State.withService_service]
  rw [if_pos ⟨w, h, h⟩]

/-- The service port after the overflow suspension (R34, R177, R179). -/
theorem overflowSuspend_service {s : State} {w : WinIdx} (line : Line) (h : s.windows[w].capturing = true) :
    (s.overflowSuspend w line).service.stats =
        { s.service.stats with overflowSuspensions := countUp s.service.stats.overflowSuspensions } ∧
      (s.overflowSuspend w line).service.events =
        s.service.events ||| EventCause.windowSuspended.flag ||| EventCause.faultLogged.flag |||
          EventCause.stallOverflow.flag ∧
      (s.service.faults.length < 8 →
        (s.overflowSuspend w line).service.faults =
          s.service.faults ++
            [{ kind := .overflow, time := s.time, window := some w, line := some line, seq := none, epoch := none }]) ∧
      (8 ≤ s.service.faults.length →
        (s.overflowSuspend w line).service.faults = s.service.faults ∧
          (s.overflowSuspend w line).service.overrun = true) := by
  have hservice := suspendCapturing_service .overflow h
  have htime : (s.suspendWhere Window.capturing .overflow).time = s.time := by rw [suspendWhere_eq]; rfl
  unfold State.overflowSuspend State.count State.raise State.offerFault
  simp only [State.withService_service, hservice, htime]
  rcases lt_or_ge s.service.faults.length 8 with hf | hf
  · rw [offer_room (v := { s.service with events := s.service.events ||| EventCause.windowSuspended.flag }) _ hf]
    exact ⟨rfl, rfl, fun _ => rfl, fun hf' => absurd hf (not_lt.2 hf')⟩
  · rw [offer_full (v := { s.service with events := s.service.events ||| EventCause.windowSuspended.flag }) _ hf]
    exact ⟨rfl, rfl, fun hf' => absurd hf' (not_lt.2 hf), fun _ => ⟨rfl, rfl⟩⟩

/-- Settles O33: the suspension by `overflowSuspend_eq`, then a head that is READY through `settle`. -/
theorem stallExpirySuspendsCapture : Obligations.StallExpirySuspendsCapture := by
  intro s hready due hdue
  have hiff := hdue.trans (stallDue_iff s).symm
  rw [exec_stallExpiry hready]
  refine ⟨fun h => ?_, fun h r rest w hq hc => ?_⟩
  · exact congrArg Host.Outcome.next (if_neg fun h' => h (hiff.2 h'))
  have hstall : s.condition r = .stalled := by
    have hhead := (hdue.1 h).1
    rw [State.headCondition, hq] at hhead
    exact Option.some.inj hhead
  obtain ⟨-, -, hcap⟩ := classify_capture hc
  obtain ⟨hstats, hevents, hroom, hfull⟩ := overflowSuspend_service r.line hcap
  obtain ⟨hrole, hlink, hdirty, hjournal, -, -, hsweep⟩ := suspendWhere_fields s Window.capturing .overflow
  have hsus := suspendWhere_get s Window.capturing .overflow
  have hnone := suspendWhere_capturing_none s .overflow
  have hhost : (s.suspendWhere Window.capturing .overflow).host = s.host := by rw [suspendWhere_eq]; rfl
  rw [expireStall_due (hiff.1 h) hq hc]
  obtain ⟨v, hu⟩ : ∃ v, s.overflowSuspend w r.line = (s.suspendWhere Window.capturing .overflow).withService v :=
    ⟨_, overflowSuspend_eq s w r.line⟩
  generalize s.overflowSuspend w r.line = u at *
  have hsame := settle_same u
  have hready' (x : State) (hx : SameButSettled u x) : x.condition r = .ready :=
    condition_after_suspension .overflow (hx.role_eq.trans (by rw [hu]; exact hrole))
      (hx.windows_eq.trans (by rw [hu]; rfl)) hc hstall
  have hstays : u.settle.host = s.host := by
    have hq' : u.host.queue = r :: rest := by rw [hu, State.withService_host, hhost, hq]
    refine (settleWith_host_stays false hq' fun st hst => ?_).trans (by rw [hu]; exact hhost)
    exact nomatch (hready' u (SameButSettled.refl u)).symm.trans hst
  refine ⟨_, rfl, fun x => ?_, ?_, ?_, by rw [hstays], by rw [hstays], ?_, ?_, fun hl => ?_, ?_, ?_, fun hf => ?_,
    fun hf => ?_⟩
  · rw [hsame.windows_eq, hu]; exact hsus x
  · refine (settleWith_sweep_none false (by rw [hu, State.withService_sweep, hsweep]) fun x => ?_).trans
      (by rw [hu]; exact hsweep)
    rw [hu, State.withService_windows]
    intro hx
    have hcx := (capturing_iff _).2 (.inl hx)
    rw [hnone] at hcx
    exact nomatch hcx
  · refine settleWith_stallStart fun x hx hxhost => ?_
    rw [State.headCondition, hxhost, show u.settleWith false = u.settle from rfl, hstays, hq]
    simp [hready' x hx]
  · rw [hsame.dirty_eq, hu]; exact hdirty
  · rw [hsame.entries_length, hu]; exact congrArg (fun j : Journal => j.entries.length) hjournal
  · refine (settleWith_entries_busy false ?_).trans (by rw [hu]; exact congrArg Journal.entries hjournal)
    rw [hu, State.withService_link, hlink]; exact hl
  · rw [hsame.service_eq, hstats, countUp_eq]
  · rw [hsame.service_eq, hevents]
  · rw [hsame.service_eq, hroom hf]
  · rw [hsame.service_eq]; exact hfull hf

end Sys2Proof.Machine
end

section
/-! RESTART: the host head of an ISOLATED unit, and the blocks after the warm reset. -/

namespace Sys2Proof.Machine

/-! ### The head of a settled unit and of an ISOLATED one -/

theorem answerHeads_length (l : List QueuedRequest) (s : State) :
    (State.answerHeads l s).host.queue.length ≤ l.length := by
  induction l generalizing s with
  | nil => exact Nat.le_refl _
  | cons r l ih =>
    unfold State.answerHeads
    split
    · exact (ih _).trans (Nat.le_succ _)
    all_goals exact Nat.le_refl _

/-- On a settled unit the head of the host queue is not one that is answered at the head (R47). -/
theorem settled_head {s : State} {r : QueuedRequest} {rest : List QueuedRequest} (h : Settled s)
    (hq : s.host.queue = r :: rest) (st : HostStatus) : s.condition r ≠ .answered st := by
  intro hc
  have hc' : s.enterHail.condition r = .answered st := by
    rw [← hc, enterHail_eq]; exact condition_congr rfl rfl rfl rfl rfl r
  have hhost : (State.answerHeads s.host.queue s.enterHail).host = s.host :=
    (settleWith_host s false).symm.trans (congrArg State.host h)
  have hlen := answerHeads_length rest (s.enterHail.answer r.tag st none)
  rw [← answerHeads_leaves r rest s.enterHail st hc', ← hq, hhost, hq] at hlen
  exact absurd hlen (Nat.not_succ_le_self _)

/-- On an ISOLATED unit every request at the head is READY, but a write with an empty mask (R9, R47). -/
theorem condition_isolated {s : State} (hr : s.role = .isolated) (r : QueuedRequest) :
    (∃ data p, r.op = .write 0 data p) ∧ s.condition r = .answered .okay ∨ s.condition r = .ready := by
  cases hop : r.op with
  | read =>
    refine .inr ((condition_read hop).trans (if_neg fun hz => ?_))
    have hside := ((hazard_iff _ _).1 hz).1
    rw [hr] at hside
    rcases hside with h | h <;> exact nomatch h
  | write mask data p =>
    by_cases hm : mask = 0
    · subst hm; exact .inl ⟨⟨data, p, rfl⟩, condition_empty hop⟩
    · right
      cases ho : s.owner r.line.granule with
      | none => exact condition_pass hop hm (classify_none ho)
      | some w => exact condition_track hop hm (classify_isolated ho hr)

/-- The Host Port of an ISOLATED unit after its head: the leading writes of an empty mask are answered OKAY, and a head that
stays is READY (R47, R181). -/
def HeadsAnswered (s t : State) (l : List QueuedRequest) (n : Nat) : Prop :=
  t.host =
      { s.host with
        queue := l.drop n
        responses :=
          s.host.responses ++ (l.take n).map fun r => ({ tag := r.tag, status := .okay, data := none } : HostResponse)
        tags := s.host.tags.filter fun tag => tag ∉ (l.take n).map QueuedRequest.tag } ∧
    (∀ r ∈ l.take n, ∃ data p, r.op = .write 0 data p) ∧ ∀ r ∈ (l.drop n).head?, s.condition r = .ready

theorem answerHeads_isolated (l : List QueuedRequest) (s : State) (hr : s.role = .isolated) :
    ∃ n, HeadsAnswered s (State.answerHeads l s) l n := by
  induction l generalizing s with
  | nil => exact ⟨0, by simp [State.answerHeads], nofun, nofun⟩
  | cons r l ih =>
    rcases condition_isolated hr r with ⟨hop, hc⟩ | hc
    · obtain ⟨n, hhost, hops, hhead⟩ := ih (s.answer r.tag .okay none) hr
      refine ⟨n + 1, ?_, ?_, fun x hx => ?_⟩
      · rw [answerHeads_leaves r l s .okay hc, hhost]
        simp only [State.answer, State.withHost_host, List.take_succ_cons, List.drop_succ_cons, List.map_cons,
          List.append_assoc, List.singleton_append, List.filter_filter]
        congr 2
        funext tag
        by_cases h : tag = r.tag <;> simp [h]
      · rw [List.take_succ_cons]
        exact List.forall_mem_cons.2 ⟨hop, hops⟩
      · rw [← hhead x hx]
        exact (condition_congr rfl rfl rfl rfl rfl x).symm
    · refine ⟨0, ?_, nofun, fun x hx => ?_⟩
      · rw [answerHeads_stays r l s fun st hst => nomatch hc.symm.trans hst]
        simp
      · obtain rfl : r = x := by simpa using hx
        exact hc

theorem settle_passedOver {s : State} (h : s.port.passedOver = 0) : s.settle.port.passedOver = 0 := by
  have hclear (u : State) (hu : u.port.passedOver = 0) : u.clearPassedOver.port.passedOver = 0 := by
    unfold State.clearPassedOver
    split
    · exact hu
    · rfl
  unfold State.settle State.settleWith
  refine hclear _ ?_
  rw [choosePosition_eq, timeStall_eq, chooseFrame_eq, answerHeads_eq, enterHail_eq]
  exact h

/-! ### The blocks after the warm reset -/

theorem exec_restart {s : State} (echo : Byte) (h : Ready s) :
    exec (.restart echo []) s = .next (s.warmReset.replyDone echo 19 []) :=
  congrArg Host.Outcome.next (takeCommand_taken echo 19 [] _ h rfl)

theorem restartWindows_get (s : State) (w : WinIdx) :
    s.restartWindows.windows[w] =
      if s.windows[w].state = .off then s.windows[w]
      else { s.windows[w] with state := .suspended, cause := .restart } := by
  unfold State.restartWindows
  rw [updateWindows_get]
  by_cases h : s.windows[w].state = .off
  · rw [if_pos h, if_neg (by rw [(enabled_false_iff _).2 h]; decide)]
  · rw [if_neg h, if_pos ((enabled_iff _).2 h)]
    rfl

theorem restartWindows_not_sweeping (s : State) (w : WinIdx) : s.restartWindows.windows[w].state ≠ .sweeping := by
  rw [restartWindows_get]
  split
  · rename_i h; rw [h]; decide
  · exact nofun

theorem mem_restartWindows (s : State) (g : Nat) :
    g ∈ s.restartWindows.markAll.dirty ↔
      g ∈ s.dirty ∨ ∃ v : WinIdx, s.windows[v].state ≠ .off ∧ s.windows[v].localHas g = true := by
  rw [mem_markAll]
  refine or_congr Iff.rfl (exists_congr fun v => ?_)
  rw [restartWindows_get, enabled_iff]
  by_cases h : s.windows[v].state = .off
  · simp only [if_pos h]
  · simp only [if_neg h]
    exact ⟨fun hv => ⟨h, hv.2⟩, fun hv => ⟨by decide, hv.2⟩⟩

/-- Every held tag stands on an entry of the journal, so that a discard empties the held-write table (R39, R52). -/
theorem discard_held {s : State} (h : TagInv s) : s.discard.host.held = [] := by
  obtain ⟨-, -, hperm⟩ := h
  rw [discard_host]
  refine List.filter_eq_nil_iff.2 fun r hr => ?_
  obtain ⟨e, he, hmem⟩ := List.mem_flatMap.1 (hperm.mem_iff.2 (List.mem_map_of_mem hr))
  obtain ⟨tag, htag, heq⟩ := List.mem_map.1 hmem
  have htag' : tag = r.tag := congrArg Prod.fst heq
  have : r.tag ∈ s.journal.entries.flatMap (·.heldTags) := List.mem_flatMap.2 ⟨e, he, htag' ▸ htag⟩
  simpa using this

theorem warmReset_eq (s : State) :
    s.warmReset = s.warmBlocks.settle.withService { s.warmBlocks.settle.service with events := 0 } := rfl

/-- The Host Port after a RESTART: the discard, and then the leading writes of an empty mask (R39, R62, R181). -/
theorem warmReset_host (s : State) :
    ∃ n, HeadsAnswered s.warmBlocks s.warmReset s.host.queue n := by
  have hblocks := warmBlocks_fields s
  have hrole : s.warmBlocks.role = .isolated := hblocks.2.1
  have hhail : s.warmBlocks.enterHail = s.warmBlocks := by
    unfold State.enterHail
    rw [if_neg]
    rintro ⟨-, h | h, -⟩ <;> exact nomatch hrole.symm.trans h
  have hqueue : s.warmBlocks.host.queue = s.host.queue := by rw [hblocks.1, discard_host]
  obtain ⟨n, hhost, hops, hhead⟩ := answerHeads_isolated s.host.queue s.warmBlocks hrole
  refine ⟨n, Eq.trans ?_ hhost, hops, hhead⟩
  have hsettle := settleWith_host s.warmBlocks false
  rw [hhail, hqueue] at hsettle
  rw [warmReset_eq, State.withService_host]
  exact hsettle

/-- The Host Port's part of a RESTART, in the terms of the state before it. -/
theorem restart_host {s : State} (held : List Tag) (hheld : held = s.journal.entries.flatMap (·.heldTags)) :
    s.warmReset.host.held = s.host.held.filter (fun r => r.tag ∉ held) ∧ (TagInv s → s.warmReset.host.held = []) ∧
      ∃ n : Nat,
        s.warmReset.host.queue = s.host.queue.drop n ∧
          (∀ r ∈ s.host.queue.take n, ∃ data poisoned, r.op = .write 0 data poisoned) ∧
          (Settled s → s.warmReset.host.queue = s.host.queue) ∧
          s.warmReset.host.responses =
            s.host.responses ++ held.map (fun tag => { tag := tag, status := .unmirrored, data := none }) ++
              (s.host.queue.take n).map (fun r => { tag := r.tag, status := .okay, data := none }) ∧
          s.warmReset.host.tags =
            s.host.tags.filter fun tag => tag ∉ held ∧ tag ∉ (s.host.queue.take n).map QueuedRequest.tag := by
  obtain ⟨n, hhost, hops, -⟩ := warmReset_host s
  have hblocks : s.warmBlocks.host = s.discard.host := (warmBlocks_fields s).1
  rw [hblocks] at hhost
  rw [hhost]
  refine ⟨?_, discard_held, n, rfl, hops, fun hs => ?_, ?_, ?_⟩
  · rw [discard_host, hheld]
  · cases hq : s.host.queue with
    | nil => exact List.drop_nil
    | cons r rest =>
      cases n with
      | zero => rfl
      | succ n =>
        obtain ⟨data, p, hop⟩ := hops r (by rw [hq]; exact List.mem_cons_self)
        exact absurd (condition_empty hop) (settled_head hs hq .okay)
  · rw [discard_host, hheld]
  · rw [discard_host, hheld]
    simp only [List.filter_filter]
    refine List.filter_congr fun tag _ => ?_
    rw [Bool.decide_and, Bool.and_comm]

/-- The head that stays after a RESTART is READY (R47). -/
theorem restart_head {s : State} (c : HeadCondition) (h : s.warmReset.headCondition = some c) : c = .ready := by
  obtain ⟨n, hhost, -, hhead⟩ := warmReset_host s
  have hrole : s.warmBlocks.role = .isolated := (warmBlocks_fields s).2.1
  have hrole' : s.warmReset.role = .isolated := by
    rw [warmReset_eq, State.withService_role, (settle_same s.warmBlocks).role_eq, hrole]
  obtain ⟨r, hr, hc⟩ := Option.map_eq_some_iff.1 h
  rw [hhost] at hr
  rcases condition_isolated hrole' r with ⟨⟨data, p, hop⟩, -⟩ | hready
  · have hstays := hhead r hr
    rw [condition_empty (s := s.warmBlocks) hop] at hstays
    exact nomatch hstays
  · exact hc.symm.trans hready

/-- No stall is timed on an ISOLATED unit (R33). -/
theorem settle_stallStart_isolated {s : State} (hr : s.role = .isolated) : s.settle.journal.stallStart = none := by
  refine settleWith_stallStart fun x hx _ h => ?_
  obtain ⟨r, -, hc⟩ := Option.map_eq_some_iff.1 h
  rcases condition_isolated (hx.role_eq.trans hr) r with ⟨-, h'⟩ | h' <;> exact nomatch hc.symm.trans h'

theorem journal_eq {j : Journal} {entries : List JournalEntry} {nextSeq : Seq} {stallStart : Option Time}
    (he : j.entries = entries) (hn : j.nextSeq = nextSeq) (hs : j.stallStart = stallStart) :
    j = { entries := entries, nextSeq := nextSeq, stallStart := stallStart } := by
  subst he hn hs
  rfl

theorem port_eq {p : MemoryPort} {op : Option Operation} {n : Nat} (ho : p.op = op) (hn : p.passedOver = n) :
    p = { op := op, passedOver := n } := by
  subst ho hn
  rfl

/-- Everything but the Host Port after a RESTART is as the warm reset of the blocks leaves it (R181). -/
theorem warmReset_fields (s : State) :
    s.warmReset.role = .isolated ∧ s.warmReset.link = s.link.warm ∧ s.warmReset.windows = s.restartWindows.windows ∧
      s.warmReset.dirty = s.restartWindows.markAll.dirty ∧
      s.warmReset.journal = { entries := [], nextSeq := s.journal.nextSeq, stallStart := none } ∧
      s.warmReset.port = { op := s.port.op.map Operation.overtake, passedOver := 0 } ∧
      s.warmReset.sweep =
        { position := none, inFlight := s.sweep.inFlight.map fun r => { r with current := false } } ∧
      s.warmReset.seq = Sequencer.warm ∧ s.warmReset.rx = s.rx.warm ∧
      s.warmReset.service = { s.service with events := 0, override := false } ∧ s.warmReset.time = s.time ∧
      s.warmReset.host.resetLine = s.host.resetLine ∧ s.warmReset.coldPin = s.coldPin ∧
      s.warmReset.pending = s.pending := by
  have hblocks := warmBlocks_eq s
  have hline : s.discard.host.resetLine = s.host.resetLine := by rw [discard_host]
  have hsweeping := restartWindows_not_sweeping s
  rw [warmReset_eq]
  generalize s.warmBlocks = b at *
  generalize s.restartWindows.markAll.dirty = dirty at *
  generalize s.restartWindows.windows = windows at *
  have hrole : b.role = .isolated := by rw [hblocks]
  have hstall := settle_stallStart_isolated hrole
  have hsweep := settleWith_sweep_none (s := b) false (by rw [hblocks]) (by rw [hblocks]; exact hsweeping)
  have hpassed := settle_passedOver (s := b) (by rw [hblocks])
  obtain ⟨hlink, hseq, hrx, hentries⟩ : b.settle.link = b.link ∧ b.settle.seq = b.seq ∧ b.settle.rx = b.rx ∧
    b.settle.journal.entries = b.journal.entries := settleWith_quiet b false (.inl hrole)
  have hsweep : b.settle.sweep = b.sweep := hsweep
  obtain ⟨-, hres, hw, hop, hnext, hd, -, -, -, -, -, -, -, -, -, -, -, -, -, hr, hservice, htime, hpending, -, hpin, -⟩ :=
    settle_same b
  generalize b.settle = t at *
  simp only [State.withService_role, State.withService_link, State.withService_windows, State.withService_dirty,
    State.withService_journal, State.withService_port, State.withService_sweep, State.withService_seq,
    State.withService_rx, State.withService_service, State.withService_time, State.withService_host,
    State.withService_coldPin, State.withService_pending]
  refine ⟨hr.trans hrole, by rw [hlink, hblocks], by rw [hw, hblocks], by rw [hd, hblocks], ?_, ?_,
    by rw [hsweep, hblocks], by rw [hseq, hblocks], by rw [hrx, hblocks], by rw [hservice, hblocks],
    by rw [htime, hblocks], by rw [hres, hblocks, ← hline], by rw [hpin, hblocks], by rw [hpending, hblocks]⟩
  · exact journal_eq (by rw [hentries, hblocks]) (by rw [hnext, hblocks]) hstall
  · exact port_eq (by rw [hop, hblocks]) hpassed

/-- Settles O23: the Host Port by `restart_host`, every other block by `warmReset_fields`. -/
theorem restartIsTheWarmReset : Obligations.RestartIsTheWarmReset := by
  intro echo s hready
  obtain ⟨hrole, hlink, hwindows, hdirty, hjournal, hport, hsweep, hseq, hrx, hservice, htime, hline, hpin, hpending⟩ :=
    warmReset_fields s
  have hhost := restart_host (s := s)
  have hhead := restart_head (s := s)
  rw [exec_restart echo hready]
  generalize s.warmReset = u at *
  refine ⟨_, rfl, hrole, ?_, fun w => ?_, fun g => ?_, hjournal, hhost, hhead, ?_, ?_, hsweep, hseq, ?_, ?_, htime, hline,
    hpin.trans hready.1, hpending⟩
  · exact hlink
  · rw [replyDone_windows, hwindows, restartWindows_get]
  · rw [replyDone_dirty, hdirty, mem_restartWindows]
  · exact congrArg MemoryPort.passedOver hport
  · refine (congrArg MemoryPort.op hport).trans (Option.map_congr fun o _ => ?_)
    obtain ⟨line, access, owner⟩ := o
    cases owner <;> rfl
  · exact hrx
  · exact congrArg (fun x : Service => { x with response := some (ServiceResponse.mk echo 19 .done .noReason []) }) hservice

end Sys2Proof.Machine
end

section
/-! A settled unit, condition by condition: what stands after `settle`, and when `settle` changes nothing. -/

namespace Sys2Proof.Machine

/-! ### The conditions -/

/-- With the lane free no sender has a frame to begin, a PROBE apart: no entry may go out on a SOURCE in UP, the sink
transmitter holds nothing in UP, and in HAIL no HELLO is owed (R103, R118, R147). -/
def State.laneServed (s : State) : Prop :=
  s.link.lane = none →
    (s.inSession → s.journal.sendable = none) ∧
      (s.sinkSession →
        s.rx.reportQueue = [] ∧ s.rx.nakSlot = none ∧ s.rx.ackPending = false ∧ s.rx.replyOwed = false) ∧
      (s.role = .source ∨ s.role = .sink → s.link.state = .hail → s.helloOwed = false)

/-- Nothing that happens at once is left to happen (R33, R47, R71, R84, R103, R118, R147). -/
structure AtRest (s : State) : Prop where
  hail : ¬ (s.link.state = .down ∧ (s.role = .source ∨ s.role = .sink) ∧ s.link.signal = .present ∧
    s.link.test.running = false)
  head : ∀ st, s.headCondition ≠ some (.answered st)
  lane : s.laneServed
  stall : s.journal.stallStart.isSome = true ↔ s.headCondition = some .stalled
  position : s.sweep.position = none →
    ∀ w : WinIdx, s.windows[w].state = .sweeping → ∀ g ∈ s.dirty, s.windows[w].localHas g = false
  passed : s.internalStands = false → s.port.passedOver = 0

/-! ### The pieces of `settle` that change nothing -/

theorem enterHail_refused {s : State}
    (h : ¬ (s.link.state = .down ∧ (s.role = .source ∨ s.role = .sink) ∧ s.link.signal = .present ∧
      s.link.test.running = false)) : s.enterHail = s := if_neg h

theorem headCondition_cons {s : State} {r : QueuedRequest} {rest : List QueuedRequest} (h : s.host.queue = r :: rest) :
    s.headCondition = some (s.condition r) := by
  rw [State.headCondition, h]; rfl

theorem headCondition_nil {s : State} (h : s.host.queue = []) : s.headCondition = none := by
  rw [State.headCondition, h]; rfl

theorem answerHeads_eq_self {s : State} (h : ∀ st, s.headCondition ≠ some (.answered st)) :
    State.answerHeads s.host.queue s = s := by
  have hself : s.withHost { s.host with queue := s.host.queue } = s := rfl
  cases hq : s.host.queue with
  | nil => rw [State.answerHeads, ← hq, hself]
  | cons r rest =>
    rw [answerHeads_stays r rest s fun st hst => h st (by rw [headCondition_cons hq, hst]), ← hq, hself]

theorem timeStall_eq_self {s : State} (h : s.journal.stallStart.isSome = true ↔ s.headCondition = some .stalled) :
    s.timeStall = s := by
  unfold State.timeStall
  split
  · rename_i hc
    obtain ⟨a, ha⟩ := Option.isSome_iff_exists.1 (h.2 hc)
    rw [ha]
  · rename_i hc
    have hnone : s.journal.stallStart = none := by
      rw [← Option.not_isSome_iff_eq_none]; exact fun hs => hc (h.1 hs)
    rw [← hnone]
    rfl

theorem choosePosition_eq_self {s : State}
    (h : s.sweep.position = none →
      ∀ w : WinIdx, s.windows[w].state = .sweeping → ∀ g ∈ s.dirty, s.windows[w].localHas g = false) :
    s.choosePosition = s := by
  rw [choosePosition_eq]
  cases hp : s.sweep.position with
  | some p => rw [State.choosePosition, hp]; rfl
  | none =>
    have hnone : s.choosePosition.sweep.position = none := by
      rw [State.choosePosition, hp]
      simp only [State.withSweep_sweep, List.findSome?_eq_none_iff]
      intro w _
      split
      · rename_i hw
        simpa using h hp w hw
      · rfl
    rw [hnone, ← hp]
    rfl

theorem clearPassedOver_eq_self {s : State} (h : s.internalStands = false → s.port.passedOver = 0) :
    s.clearPassedOver = s := by
  unfold State.clearPassedOver
  split
  · rfl
  · rename_i hc
    rw [← h (by simpa using hc)]
    rfl

/-- The choice of a frame changes nothing while the lane is busy (R94). -/
theorem chooseFrame_busy {s : State} {f : Frame} (probe : Bool) (h : s.link.lane = some f) : s.chooseFrame probe = s := by
  rw [State.chooseFrame, h]

/-- The choice of R118 on a SOURCE in UP with a free lane. -/
theorem chooseFrame_source {s : State} (probe : Bool) (hl : s.link.lane = none) (hin : s.inSession) :
    s.chooseFrame probe = s.sourceFrame probe := by
  rw [State.chooseFrame, hl, hin.1, hin.2]

/-- The choice of R147 on a SINK in UP with a free lane. -/
theorem chooseFrame_sink {s : State} (probe : Bool) (hl : s.link.lane = none) (hin : s.sinkSession) :
    s.chooseFrame probe = s.sinkFrame := by
  rw [State.chooseFrame, hl, hin.1, hin.2]

theorem chooseFrame_hailSource {s : State} (probe : Bool) (hl : s.link.lane = none) (hr : s.role = .source)
    (hh : s.link.state = .hail) :
    s.chooseFrame probe = if s.helloOwed then s.sendHello (.source s.link.epoch s.journal.nextSeq) else s := by
  rw [State.chooseFrame, hl, hr, hh]

theorem chooseFrame_hailSink {s : State} (probe : Bool) (hl : s.link.lane = none) (hr : s.role = .sink)
    (hh : s.link.state = .hail) :
    s.chooseFrame probe = if s.helloOwed then s.sendHello (.sink s.link.epoch) else s := by
  rw [State.chooseFrame, hl, hr, hh]

/-- No sender chooses a frame in the other roles and link states (R94). -/
theorem chooseFrame_quiet {s : State} (probe : Bool)
    (h : s.role = .isolated ∨ s.role = .draining ∨ s.link.state = .down ∨ s.link.state = .clash) :
    s.chooseFrame probe = s := by
  unfold State.chooseFrame
  cases s.link.lane with
  | some f => rfl
  | none => rcases h with h | h | h | h <;> rw [h] <;> cases s.role <;> cases s.link.state <;> rfl

/-- The roles and link states, as the choice of a frame parts them. -/
theorem sender_cases (s : State) :
    s.inSession ∨ s.sinkSession ∨ (s.role = .source ∧ s.link.state = .hail) ∨
      (s.role = .sink ∧ s.link.state = .hail) ∨
      (s.role = .isolated ∨ s.role = .draining ∨ s.link.state = .down ∨ s.link.state = .clash) := by
  unfold State.inSession State.sinkSession
  cases s.role <;> cases s.link.state <;> simp

theorem sinkFrame_eq_self {s : State} (hreport : s.rx.reportQueue = []) (hnak : s.rx.nakSlot = none)
    (hack : s.rx.ackPending = false) (hreply : s.rx.replyOwed = false) : s.sinkFrame = s := by
  rw [State.sinkFrame, hreport, hnak]
  simp [hack, hreply]

/-- The choice of a frame changes nothing while no frame waits for a free lane. -/
theorem chooseFrame_of_served {s : State} (h : s.laneServed) : s.chooseFrame false = s := by
  cases hl : s.link.lane with
  | some f => exact chooseFrame_busy false hl
  | none =>
    obtain ⟨hsource, hsink, hhail⟩ := h hl
    rcases sender_cases s with hin | hin | ⟨hr, hh⟩ | ⟨hr, hh⟩ | hq
    · rw [chooseFrame_source false hl hin, State.sourceFrame, hsource hin]
      rfl
    · obtain ⟨h1, h2, h3, h4⟩ := hsink hin
      rw [chooseFrame_sink false hl hin, sinkFrame_eq_self h1 h2 h3 h4]
    · rw [chooseFrame_hailSource false hl hr hh, hhail (.inl hr) hh]
      rfl
    · rw [chooseFrame_hailSink false hl hr hh, hhail (.inr hr) hh]
      rfl
    · exact chooseFrame_quiet false hq

/-- After the choice of a frame no frame waits for a free lane (R94, R103, R118, R147). -/
theorem chooseFrame_served (s : State) (probe : Bool) : (s.chooseFrame probe).laneServed := by
  cases hl : s.link.lane with
  | some f => rw [chooseFrame_busy probe hl]; exact fun h => nomatch hl.symm.trans h
  | none =>
    have hself (hs : s.chooseFrame probe = s) (h : s.laneServed) : (s.chooseFrame probe).laneServed := by rwa [hs]
    rcases sender_cases s with hin | hin | ⟨hr, hh⟩ | ⟨hr, hh⟩ | hq
    · rw [chooseFrame_source probe hl hin, State.sourceFrame]
      split
      · exact nofun
      · rename_i hnone
        split
        · exact nofun
        · refine fun _ => ⟨fun _ => hnone, fun hk => ?_, fun _ hh => ?_⟩
          · exact nomatch hin.1.symm.trans hk.1
          · exact nomatch hin.2.symm.trans hh
    · rw [chooseFrame_sink probe hl hin, State.sinkFrame]
      split
      · exact nofun
      · exact nofun
      · rename_i hreport hnak
        split
        · exact nofun
        · rename_i hack
          split
          · exact nofun
          · rename_i hreply
            refine fun _ => ⟨fun hk => ?_, fun _ => ⟨hreport, hnak, by simpa using hack, by simpa using hreply⟩,
              fun _ hh => ?_⟩
            · exact nomatch hin.1.symm.trans hk.1
            · exact nomatch hin.2.symm.trans hh
    · rw [chooseFrame_hailSource probe hl hr hh]
      split
      · exact nofun
      · rename_i howed
        exact fun _ => ⟨fun hk => (nomatch hh.symm.trans hk.2), fun hk => (nomatch hh.symm.trans hk.2),
          fun _ _ => by simpa using howed⟩
    · rw [chooseFrame_hailSink probe hl hr hh]
      split
      · exact nofun
      · rename_i howed
        exact fun _ => ⟨fun hk => (nomatch hh.symm.trans hk.2), fun hk => (nomatch hh.symm.trans hk.2),
          fun _ _ => by simpa using howed⟩
    · refine hself (chooseFrame_quiet probe hq) fun _ => ⟨fun hk => ?_, fun hk => ?_, fun hr hh => ?_⟩
      · rcases hq with h | h | h | h <;> simp [State.inSession, h] at hk
      · rcases hq with h | h | h | h <;> simp [State.sinkSession, h] at hk
      · rcases hq with h | h | h | h <;> simp [h] at hr hh

end Sys2Proof.Machine
end

section
/-! What `settle` leaves: a unit at rest, which settling again does not change. -/

namespace Sys2Proof.Machine

/-! ### The pieces that `settle` is made of -/

/-- The state in which `settle` times the stall: HAIL entered, the head answered and the lane's frame chosen. -/
def State.framed (s : State) (probe : Bool) : State :=
  (State.answerHeads s.enterHail.host.queue s.enterHail).chooseFrame probe

theorem settleWith_framed (s : State) (probe : Bool) :
    s.settleWith probe = (s.framed probe).timeStall.choosePosition.clearPassedOver := rfl

/-- The condition of the head is read from the queue, the windows, the role, the override, the apply queue and the
entries (R47). -/
theorem headCondition_congr {s t : State} (hq : t.host.queue = s.host.queue) (hw : t.windows = s.windows)
    (hr : t.role = s.role) (ho : t.service.override = s.service.override) (ha : t.rx.applyQueue = s.rx.applyQueue)
    (hj : t.journal.entries = s.journal.entries) : t.headCondition = s.headCondition := by
  unfold State.headCondition
  rw [hq]
  congr 1
  funext r
  exact condition_congr hw hr ho ha hj r

/-- Timing the stall, taking a position and clearing the count leave what the head's condition is read from. -/
theorem settleWith_headCondition (s : State) (probe : Bool) :
    (s.settleWith probe).headCondition = (s.framed probe).headCondition := by
  rw [settleWith_framed, clearPassedOver_eq, choosePosition_eq, timeStall_eq]
  exact headCondition_congr rfl rfl rfl rfl rfl rfl

theorem settleWith_stall (s : State) (probe : Bool) :
    (s.settleWith probe).journal.stallStart = (s.framed probe).timeStall.journal.stallStart := by
  rw [settleWith_framed, clearPassedOver_eq, choosePosition_eq]
  rfl

/-- While the head lacks room a stall is timed, from the start that stands or from now (R33). -/
theorem timeStall_stallStart (s : State) :
    s.timeStall.journal.stallStart =
      if s.headCondition = some .stalled then some (s.journal.stallStart.getD s.time) else none := by
  unfold State.timeStall
  split
  · split
    · rename_i a ha; rw [ha]; rfl
    · rename_i ha; rw [ha]; rfl
  · rfl

/-! ### Answers at the head -/

/-- Which requests are answered at the head is read from the windows, the role and the override (R47). -/
theorem condition_answered_congr {s t : State} (hw : t.windows = s.windows) (hr : t.role = s.role)
    (ho : t.service.override = s.service.override) (r : QueuedRequest) (st : HostStatus) :
    t.condition r = .answered st ↔ s.condition r = .answered st := by
  have hclass (line : Line) : t.classify line = s.classify line := by
    unfold State.classify State.owner
    rw [hw, hr, ho]
  cases hop : r.op with
  | read => rw [condition_read hop, condition_read hop]; split <;> split <;> exact ⟨nofun, nofun⟩
  | write mask data p =>
    by_cases hm : mask = 0
    · subst hm; rw [condition_empty hop, condition_empty hop]
    · have h := hclass r.line
      cases hc : s.classify r.line with
      | fence => rw [condition_fence hop hm hc, condition_fence hop hm (h.trans hc)]
      | pass => rw [condition_pass hop hm hc, condition_pass hop hm (h.trans hc)]
      | track w => rw [condition_track hop hm hc, condition_track hop hm (h.trans hc)]
      | capture w =>
        rw [condition_capture hop hm hc, condition_capture hop hm (h.trans hc)]
        split <;> split <;> exact ⟨nofun, nofun⟩

/-- The first requests of the queue, each with the status of its condition, leave it, and the one after them stays
(R47, R56). -/
def HeadsLeft (s t : State) (l : List QueuedRequest) (n : Nat) (status : QueuedRequest → HostStatus) : Prop :=
  (∀ r ∈ l.take n, s.condition r = .answered (status r)) ∧
    (∀ r rest, l.drop n = r :: rest → ∀ st, s.condition r ≠ .answered st) ∧ t.host.queue = l.drop n ∧
    t.host.responses =
      s.host.responses ++ (l.take n).map (fun r => { tag := r.tag, status := status r, data := none }) ∧
    t.host.tags = s.host.tags.filter fun tag => tag ∉ (l.take n).map QueuedRequest.tag

/-- The status that a condition answers at the head. -/
def HeadCondition.status : HeadCondition → HostStatus
  | .answered st => st
  | _ => .okay

theorem answerHeads_left (l : List QueuedRequest) (s : State) :
    ∃ n, HeadsLeft s (State.answerHeads l s) l n fun r => (s.condition r).status := by
  induction l generalizing s with
  | nil => exact ⟨0, by simp [HeadsLeft, State.answerHeads]⟩
  | cons r l ih =>
    by_cases h : ∃ st, s.condition r = .answered st
    · obtain ⟨st, hst⟩ := h
      have hcond (x : QueuedRequest) : (s.answer r.tag st none).condition x = s.condition x :=
        condition_congr rfl rfl rfl rfl rfl x
      obtain ⟨n, hgone, hstays, hqueue, hresponses, htags⟩ := ih (s.answer r.tag st none)
      simp only [hcond] at hgone hstays hresponses
      refine ⟨n + 1, ?_, ?_, ?_, ?_, ?_⟩
      · simpa [hst, HeadCondition.status] using hgone
      · exact hstays
      · rw [answerHeads_leaves r l s st hst, hqueue]; rfl
      · rw [answerHeads_leaves r l s st hst, hresponses]
        simp [State.answer, hst, HeadCondition.status]
      · rw [answerHeads_leaves r l s st hst, htags]
        simp only [State.answer, State.withHost_host, List.filter_filter, List.take_succ_cons, List.map_cons]
        refine List.filter_congr fun tag _ => ?_
        by_cases htag : tag = r.tag <;> simp [htag]
    · have hstays : ∀ st, s.condition r ≠ .answered st := fun st hst => h ⟨st, hst⟩
      refine ⟨0, by simp, fun x rest hx => ?_, ?_, ?_, ?_⟩
      · obtain ⟨rfl, -⟩ := List.cons.inj (List.drop_zero.symm.trans hx)
        exact hstays
      all_goals rw [answerHeads_stays r l s hstays]; simp

/-- After `settle` the Host Port is as the requests that left the head leave it (R47, R56). -/
theorem settleWith_heads (s : State) (probe : Bool) :
    ∃ n, HeadsLeft s (s.settleWith probe) s.host.queue n fun r => (s.condition r).status := by
  have hcond (r : QueuedRequest) : s.enterHail.condition r = s.condition r := by
    rw [enterHail_eq]; exact condition_congr rfl rfl rfl rfl rfl r
  obtain ⟨n, h⟩ := answerHeads_left s.host.queue s.enterHail
  refine ⟨n, ?_⟩
  unfold HeadsLeft at h ⊢
  rw [settleWith_host]
  simpa only [hcond, enterHail_host] using h

theorem settleWith_head (s : State) (probe : Bool) (st : HostStatus) :
    (s.settleWith probe).headCondition ≠ some (.answered st) := by
  obtain ⟨n, -, hstays, hqueue, -⟩ := settleWith_heads s probe
  have hsame := settleWith_same s probe
  cases hq : (s.settleWith probe).host.queue with
  | nil => rw [headCondition_nil hq]; exact nofun
  | cons r rest =>
    rw [headCondition_cons hq]
    intro h
    refine hstays r rest (hqueue.symm.trans hq) st ?_
    exact (condition_answered_congr hsame.windows_eq hsame.role_eq (by rw [hsame.service_eq]) r st).1
      (Option.some.inj h)

/-! ### At rest -/

theorem SameButSettled.link_kept {u t : State} (h : SameButSettled u t) :
    t.link.signal = u.link.signal ∧ t.link.test = u.link.test := by
  obtain ⟨-, -, -, -, -, -, -, hsignal, -, htest, -⟩ := h
  exact ⟨hsignal, htest⟩

theorem clearPassedOver_passed {s : State} (h : s.clearPassedOver.internalStands = false) :
    s.clearPassedOver.port.passedOver = 0 := by
  unfold State.clearPassedOver at h ⊢
  split
  · rename_i hc
    rw [if_pos hc] at h
    exact nomatch hc.symm.trans h
  · rfl

/-- A position is left untaken only where no SWEEPING window has a dirty granule (R84). -/
theorem settleWith_position {s : State} {probe : Bool} (h : (s.settleWith probe).sweep.position = none) (w : WinIdx)
    (hw : s.windows[w].state = .sweeping) (g : Nat) (hg : g ∈ s.dirty) : s.windows[w].localHas g = false := by
  rw [settleWith_sweep, State.choosePosition] at h
  split at h
  · rename_i p hp
    exact nomatch hp.symm.trans h
  · simp only [State.withSweep_sweep, List.findSome?_eq_none_iff] at h
    have hnone := h w (List.mem_finRange w)
    rw [if_pos hw, Option.map_eq_none_iff, List.find?_eq_none] at hnone
    simpa using hnone g hg

theorem laneServed_congr {s t : State} (hlink : t.link = s.link) (hentries : t.journal.entries = s.journal.entries)
    (hrx : t.rx = s.rx) (hrole : t.role = s.role) (h : s.laneServed) : t.laneServed := by
  unfold State.laneServed State.inSession State.sinkSession State.helloOwed Journal.sendable Journal.sentCount at h ⊢
  rwa [hlink, hentries, hrx, hrole]

/-- Whatever the state before, what `settle` leaves is at rest. -/
theorem settleWith_atRest (s : State) (probe : Bool) : AtRest (s.settleWith probe) := by
  have hsame := settleWith_same s probe
  obtain ⟨hsignal, htest⟩ := hsame.link_kept
  obtain ⟨hlink, hentries, -, hrx⟩ := settleWith_lane s probe
  have hrole : (s.enterHail.chooseFrame probe).role = s.role :=
    ((enterHail_same s).trans (chooseFrame_same _ probe)).role_eq
  refine ⟨?_, settleWith_head s probe, ?_, ?_, fun hp w => ?_, ?_⟩
  · rw [hsame.role_eq, hsignal, htest, (settleWith_link s probe).1]
    unfold State.enterHail
    split
    · exact fun h => nomatch h.1
    · assumption
  · exact laneServed_congr hlink hentries hrx (hsame.role_eq.trans hrole.symm) (chooseFrame_served _ probe)
  · rw [settleWith_headCondition, settleWith_stall, timeStall_stallStart]
    split <;> simp_all
  · rw [hsame.windows_eq, hsame.dirty_eq]
    exact settleWith_position hp w
  · rw [settleWith_framed]
    exact clearPassedOver_passed

/-- At rest nothing is left to settle, but for a PROBE. -/
theorem AtRest.settleWith_self {s : State} (h : AtRest s) {probe : Bool} (hf : s.chooseFrame probe = s) :
    s.settleWith probe = s := by
  unfold State.settleWith
  simp only
  rw [enterHail_refused h.hail, answerHeads_eq_self h.head, hf, timeStall_eq_self h.stall,
    choosePosition_eq_self h.position, clearPassedOver_eq_self h.passed]

/-- A settled state is one at rest. -/
theorem settled_iff (s : State) : Settled s ↔ AtRest s := by
  constructor
  · intro h
    have hrest := settleWith_atRest s false
    rwa [show s.settleWith false = s from h] at hrest
  · exact fun h => h.settleWith_self (chooseFrame_of_served h.lane)

theorem settleWith_settled (s : State) (probe : Bool) : Settled (s.settleWith probe) :=
  (settled_iff _).2 (settleWith_atRest s probe)

theorem settle_settled (s : State) : Settled s.settle := settleWith_settled s false

/-! ### States that differ where settling does not look -/

/-- `t` reads as `s` in every field that the conditions of a settled state are read from. -/
structure SameRest (s t : State) : Prop where
  queue : t.host.queue = s.host.queue
  windows : t.windows = s.windows
  port : t.port = s.port
  entries : t.journal.entries = s.journal.entries
  stallStart : t.journal.stallStart = s.journal.stallStart
  dirty : t.dirty = s.dirty
  sweep : t.sweep = s.sweep
  linkState : t.link.state = s.link.state
  signal : t.link.signal = s.link.signal
  helloDue : t.link.helloDue = s.link.helloDue
  lane : t.link.lane = s.link.lane
  running : t.link.test.running = s.link.test.running
  rx : t.rx = s.rx
  role : t.role = s.role
  override : t.service.override = s.service.override

theorem SameRest.refl (s : State) : SameRest s s :=
  ⟨rfl, rfl, rfl, rfl, rfl, rfl, rfl, rfl, rfl, rfl, rfl, rfl, rfl, rfl, rfl⟩

theorem SameRest.headCondition {s t : State} (h : SameRest s t) : t.headCondition = s.headCondition :=
  headCondition_congr h.queue h.windows h.role h.override (by rw [h.rx]) h.entries

/-- The internal side is read from the apply engine, the sweep engine, the port, the windows, the role and how many entries
the journal holds (R68). -/
theorem internalStands_congr {s t : State} (hp : t.headOnPort = s.headOnPort) (hrx : t.rx = s.rx)
    (hw : t.windows = s.windows) (hr : t.role = s.role) (hs : t.sweep = s.sweep)
    (hl : t.journal.entries.length = s.journal.entries.length) : t.internalStands = s.internalStands := by
  unfold State.internalStands State.applyCandidate State.sweepCandidate State.owner
  rw [hp, hrx, hw, hr, hs, hl]

theorem AtRest.congr {s t : State} (hs : AtRest s) (h : SameRest s t) : AtRest t where
  hail := by rw [h.linkState, h.role, h.signal, h.running]; exact hs.hail
  head := by rw [h.headCondition]; exact hs.head
  lane := by
    have hlane := hs.lane
    unfold State.laneServed State.inSession State.sinkSession State.helloOwed Journal.sendable Journal.sentCount
      at hlane ⊢
    rwa [h.lane, h.role, h.linkState, h.entries, h.rx, h.helloDue]
  stall := by rw [h.headCondition, h.stallStart]; exact hs.stall
  position := by rw [h.sweep, h.windows, h.dirty]; exact hs.position
  passed := by
    have hon : t.headOnPort = s.headOnPort := by unfold State.headOnPort; rw [h.port]
    rw [internalStands_congr hon h.rx h.windows h.role h.sweep (by rw [h.entries]), h.port]
    exact hs.passed

theorem Settled.congr {s t : State} (hs : Settled s) (h : SameRest s t) : Settled t :=
  (settled_iff t).2 (((settled_iff s).1 hs).congr h)

end Sys2Proof.Machine
end

section
/-! Every command leaves a settled unit settled, and so does every step. -/

namespace Sys2Proof.Machine

/-! ### Updates that settling does not look at -/

theorem raise_rest (s : State) (c : EventCause) : SameRest s (s.raise c) := { SameRest.refl s with }
theorem count_rest (s : State) (f : Stats → Stats) : SameRest s (s.count f) := { SameRest.refl s with }
theorem reply_rest (s : State) (echo code : Byte) (st : ServiceStatus) (r : Reason) (l : List Byte) :
    SameRest s (s.reply echo code st r l) := { SameRest.refl s with }
theorem withPending_rest (s : State) (x : List Instr) : SameRest s (s.withPending x) := { SameRest.refl s with }
theorem withFreeCount_rest (s : State) (x : Nat) : SameRest s (s.withFreeCount x) := { SameRest.refl s with }
theorem withTime_rest (s : State) (x : Time) : SameRest s (s.withTime x) := { SameRest.refl s with }
theorem resetLine_rest (s : State) (b : Bool) : SameRest s (s.withHost { s.host with resetLine := b }) :=
  { SameRest.refl s with }
theorem withService_rest (s : State) (x : Service) (h : x.override = s.service.override) :
    SameRest s (s.withService x) := { SameRest.refl s with override := h }

theorem offerFault_rest (s : State) (k : FaultKind) (w : Option WinIdx) (l : Option Line) (q : Option Seq)
    (e : Option Epoch) : SameRest s (s.offerFault k w l q e) := by
  refine withService_rest s _ ?_
  unfold Service.offer
  split <;> rfl

theorem noteReceipt_rest (s : State) : SameRest s s.noteReceipt := by
  unfold State.noteReceipt
  split
  · exact { SameRest.refl s with }
  · exact SameRest.refl s

theorem Settled.reply {s : State} (h : Settled s) (echo code : Byte) (st : ServiceStatus) (r : Reason) (l : List Byte) :
    Settled (s.reply echo code st r l) := h.congr (reply_rest s echo code st r l)

theorem Settled.withService {s : State} (h : Settled s) {x : Service} (hx : x.override = s.service.override) :
    Settled (s.withService x) := h.congr (withService_rest s x hx)

theorem Settled.replyDone {s : State} (h : Settled s) (echo code : Byte) (l : List Byte) :
    Settled (s.replyDone echo code l) := h.reply echo code .done .noReason l

theorem Settled.refuse {s : State} (h : Settled s) (echo code : Byte) (r : Reason) :
    Settled (s.refuse echo code r) := h.reply echo code .refused r []

theorem settleDone_settled (s : State) (echo code : Byte) (l : List Byte) : Settled (s.settle.replyDone echo code l) :=
  (settle_settled s).replyDone echo code l

theorem settled_ite {c : Prop} [Decidable c] {a b : State} (ha : c → Settled a) (hb : ¬ c → Settled b) :
    Settled (if c then a else b) := by
  split
  · exact ha ‹_›
  · exact hb ‹_›

/-- An effect that is settled at its end, made only under a condition. -/
theorem settled_ite_settle {c : Prop} [Decidable c] {s : State} (t : State) (h : Settled s) :
    Settled (if c then t.settle else s) := by
  split
  · exact settle_settled t
  · exact h

/-! ### What is due at once -/

theorem changeRole_settled (s : State) (new : Role) : Settled (s.changeRole new) := settle_settled _

theorem drainCheck_settled {s : State} (h : Settled s) : Settled s.drainCheck := by
  unfold State.drainCheck State.endDrain
  split
  · exact (changeRole_settled s .source).congr (raise_rest _ _)
  · exact h

theorem examineNow_settled {s : State} (h : Settled s) : Settled s.examineNow := settled_ite_settle _ h

theorem examineAll_settled (n : Nat) {s : State} (h : Settled s) : Settled (State.examineAll n s) := by
  induction n generalizing s with
  | zero => exact h
  | succ n ih =>
    unfold State.examineAll
    split
    · exact ih (examineNow_settled h)
    · exact h

theorem grantNow_settled {s : State} (h : Settled s) : Settled s.grantNow := by
  unfold State.grantNow
  split
  · exact h
  · split
    · exact h
    · exact settle_settled _

theorem prompt_settled {s : State} (h : Settled s) : Settled s.prompt := by
  unfold State.prompt
  split
  · exact h
  · exact grantNow_settled (examineAll_settled _ h)

theorem take_settled {s : State} {f : State → State} (h : Settled s) (hf : ∀ u, Settled u → Settled (f u)) :
    Settled (s.take f) := by
  unfold State.take
  split
  · exact h
  · exact hf _ (prompt_settled h)

theorem takeCommand_settled {s : State} (echo code : Byte) (args : List Byte) {f : State → State} (h : Settled s)
    (hf : ∀ u, Settled u → Settled (f u)) : Settled (s.takeCommand echo code args f) := by
  refine take_settled h fun u hu => ?_
  split
  · exact hf u hu
  · exact hu.reply _ _ _ _ _

/-! ### Resets -/

/-- Every block at its cold reset values is at rest, whatever the lane signal. -/
theorem ColdValues.settled {s : State} (h : ColdValues s) : Settled s := by
  obtain ⟨hqueue, -, -, hwindows, hport, hjournal, hdirty, -, hlink, -, -, -, -, -, -, -, -, -, -, -, -, -, -, -, hrole, -⟩ := h
  refine (settled_iff s).2 ⟨?_, ?_, ?_, ?_, fun _ w _ => ?_, fun _ => ?_⟩
  · simp [hrole]
  · simp [headCondition_nil hqueue]
  · refine fun _ => ⟨fun hin => ?_, fun hin => ?_, fun hr => ?_⟩
    · exact nomatch hrole.symm.trans hin.1
    · exact nomatch hrole.symm.trans hin.1
    · simp [hrole] at hr
  · rw [headCondition_nil hqueue, hjournal]; simp
  · rw [hdirty]; exact fun g hg => nomatch hg
  · rw [hport]

theorem ColdValues.withSignal {s : State} (h : ColdValues s) (signal : LaneSignal) :
    ColdValues (s.withLink { s.link with signal := signal }) := by
  unfold ColdValues at h ⊢
  obtain ⟨h1, h2, h3, h4, h5, h6, h7, h8, hlink, hrest⟩ := h
  exact ⟨h1, h2, h3, h4, h5, h6, h7, h8, congrArg (fun l : Link => { l with signal := signal }) hlink, hrest⟩

theorem coldReset_settled {s : State} (edge : ColdPinEdge) (h : Settled s) :
    ∃ t, execColdReset edge s = .next t ∧ Settled t := by
  refine ⟨_, rfl, ?_⟩
  split
  · exact (cold_values _ _).settled
  · split
    · exact ((cold_values _ _).withSignal _).settled
    · exact prompt_settled h

/-- The entry at the send cursor waits exactly while it is open or 32 entries are SENT (R23, R118). -/
theorem sendable_none_iff (j : Journal) :
    j.sendable = none ↔
      ∀ e, j.entries.find? (fun x => !x.sent) = some e → e.isOpen = true ∨ 32 ≤ j.entries.countP (·.sent) := by
  unfold Journal.sendable Journal.sentCount
  rw [List.countP_eq_length_filter]
  cases j.entries.find? fun x => !x.sent with
  | none => simp
  | some e =>
    simp only [Option.some.injEq, forall_eq']
    unfold Config.inFlightLimit
    split
    · rename_i h; simp [h]
    · rename_i h
      refine ⟨fun _ => ?_, fun _ => rfl⟩
      rw [not_and_or, Bool.not_eq_false, not_lt] at h
      exact h

/-- Entries changed one by one, but for their sending state and whether they are open, wait as before. -/
theorem sendable_none_map {j k : Journal} (f : JournalEntry → JournalEntry)
    (hf : ∀ e, (f e).sent = e.sent ∧ (f e).isOpen = e.isOpen) (hk : k.entries = j.entries.map f)
    (h : j.sendable = none) : k.sendable = none := by
  rw [sendable_none_iff] at h ⊢
  have hsent : (fun x : JournalEntry => x.sent) ∘ f = fun x => x.sent := funext fun e => (hf e).1
  have hwait : (fun x : JournalEntry => !x.sent) ∘ f = fun x => !x.sent := funext fun e => congrArg _ (hf e).1
  rw [hk, List.find?_map, List.countP_map, hsent, hwait]
  intro e he
  obtain ⟨x, hx, rfl⟩ := Option.map_eq_some_iff.1 he
  rw [(hf x).2]
  exact h x hx

theorem hostPortReset_headOnPort (s : State) : s.hostPortReset.headOnPort = s.headOnPort := by
  have hop : s.hostPortReset.port.op = s.port.op.map Operation.dropTag := rfl
  unfold State.headOnPort
  rw [hop]
  rcases s.port.op with _ | ⟨line, access, owner⟩
  · rfl
  · cases owner <;> rfl

/-- A host port reset empties the queue, and no frame waits that did not wait before (R61). -/
theorem hostPortReset_settled {s : State} (h : Settled s) : Settled s.hostPortReset := by
  have hs := (settled_iff s).1 h
  have hentries : s.hostPortReset.journal.entries = s.journal.entries.map fun e => { e with heldTags := [] } := rfl
  have hhead : s.hostPortReset.headCondition = none := headCondition_nil rfl
  have hinternal : s.hostPortReset.internalStands = s.internalStands :=
    internalStands_congr (hostPortReset_headOnPort s) rfl rfl rfl rfl (by rw [hentries, List.length_map])
  refine (settled_iff _).2 ⟨hs.hail, by rw [hhead]; exact nofun, fun hl => ?_, ?_, hs.position, ?_⟩
  · obtain ⟨hsource, hsink, hhail⟩ := hs.lane hl
    exact ⟨fun hin => sendable_none_map (fun e => { e with heldTags := [] }) (fun _ => ⟨rfl, rfl⟩) hentries (hsource hin),
      hsink, hhail⟩
  · rw [hhead]; exact ⟨nofun, nofun⟩
  · rw [hinternal]; exact hs.passed

/-! ### Windows that are OFF -/

/-- The window records differ only where both are OFF. -/
def SameEnabled (s t : State) : Prop :=
  ∀ w : WinIdx, t.windows[w] = s.windows[w] ∨ (s.windows[w].state = .off ∧ t.windows[w].state = .off)

theorem SameEnabled.owner {s t : State} (h : SameEnabled s t) (g : Nat) : t.owner g = s.owner g := by
  unfold State.owner
  congr 1
  funext w
  rcases h w with hw | ⟨hs, ht⟩
  · rw [hw]
  · rw [(enabled_false_iff _).2 hs, (enabled_false_iff _).2 ht]
    rfl

theorem SameEnabled.capturing {s t : State} (h : SameEnabled s t) (w : WinIdx) :
    t.windows[w].capturing = s.windows[w].capturing := by
  rcases h w with hw | ⟨hs, ht⟩
  · rw [hw]
  · unfold Window.capturing
    rw [hs, ht]

theorem SameEnabled.classify {s t : State} (h : SameEnabled s t) (hr : t.role = s.role)
    (ho : t.service.override = s.service.override) (line : Line) : t.classify line = s.classify line := by
  unfold State.classify
  rw [h.owner, hr, ho]
  split
  · rfl
  · rw [h.capturing]

theorem SameEnabled.headCondition {s t : State} (h : SameEnabled s t) (hq : t.host.queue = s.host.queue)
    (hr : t.role = s.role) (ho : t.service.override = s.service.override) (ha : t.rx.applyQueue = s.rx.applyQueue)
    (hj : t.journal.entries = s.journal.entries) : t.headCondition = s.headCondition := by
  unfold State.headCondition
  rw [hq]
  congr 1
  funext r
  have hclass := h.classify hr ho r.line
  cases hop : r.op with
  | read =>
    rw [condition_read hop, condition_read hop]
    unfold State.hazard
    rw [hr, ha]
  | write mask data p =>
    by_cases hm : mask = 0
    · subst hm; rw [condition_empty hop, condition_empty hop]
    · cases hc : s.classify r.line with
      | fence => rw [condition_fence hop hm hc, condition_fence hop hm (hclass.trans hc)]
      | pass => rw [condition_pass hop hm hc, condition_pass hop hm (hclass.trans hc)]
      | track w => rw [condition_track hop hm hc, condition_track hop hm (hclass.trans hc)]
      | capture w =>
        rw [condition_capture hop hm hc, condition_capture hop hm (hclass.trans hc)]
        obtain ⟨-, -, hcap⟩ := classify_capture hc
        have hw : t.windows[w] = s.windows[w] := (h w).resolve_right fun ⟨hoff, _⟩ => by
          rcases (capturing_iff _).1 hcap with hs | hs <;> exact nomatch hoff.symm.trans hs
        unfold State.hasRoom State.merges
        rw [hw, hj]

/-- Programming a window that stays OFF leaves nothing to settle (R4). -/
theorem program_settled {s : State} (h : Settled s) (w : WinIdx) (f : Window → Window)
    (hoff : s.windows[w].state = .off) (hf : (f s.windows[w]).state = .off) : Settled (s.updateWindow w f) := by
  have hs := (settled_iff s).1 h
  have hsame : SameEnabled s (s.updateWindow w f) := fun v => by
    rw [updateWindow_get]
    split
    · rename_i hv; subst hv; exact .inr ⟨hoff, hf⟩
    · exact .inl rfl
  have hhead := hsame.headCondition rfl rfl rfl rfl rfl
  have hinternal : (s.updateWindow w f).internalStands = s.internalStands := by
    unfold State.internalStands State.applyCandidate
    simp only [hsame.owner]
    rfl
  refine (settled_iff _).2 ⟨hs.hail, by rw [hhead]; exact hs.head, hs.lane, by rw [hhead]; exact hs.stall,
    fun hp v hv => ?_, by rw [hinternal]; exact hs.passed⟩
  rcases hsame v with hw | ⟨-, hw⟩
  · rw [hw] at hv ⊢; exact hs.position hp v hv
  · exact nomatch hw.symm.trans hv

theorem setWindow_settled {s : State} (h : Settled s) (echo : Byte) (a : SetWindowArgs) :
    Settled (s.setWindow echo a) := by
  unfold State.setWindow
  split
  · exact h.refuse _ _ _
  · rename_i w _
    refine settled_ite (fun _ => h.reply _ _ _ _ _) fun hen => ?_
    have hoff : s.windows[w].state = .off := (enabled_false_iff _).1 (by simpa using hen)
    split
    · exact settled_ite (fun _ => h.refuse _ _ _) fun _ => settled_ite (fun _ => h.refuse _ _ _) fun _ =>
        settled_ite (fun _ => h.refuse _ _ _) fun _ => (program_settled h w _ hoff hoff).replyDone _ _ _
    · exact h.refuse _ _ _
    · exact h.refuse _ _ _

/-! ### The other service commands -/

theorem tryEnable_settled {s : State} (h : Settled s) (echo : Byte) (n : Nat) : Settled (s.tryEnable echo n) := by
  unfold State.tryEnable
  split
  · exact h.refuse _ _ _
  · exact settled_ite (fun _ => h.replyDone _ _ _) fun _ => settled_ite (fun _ => h.refuse _ _ _) fun _ =>
      settled_ite (fun _ => h.refuse _ _ _) fun _ => settled_ite (fun _ => h.refuse _ _ _) fun _ =>
        settleDone_settled _ _ _ _

theorem tryStartSweep_settled {s : State} (h : Settled s) (echo : Byte) (n scope : Nat) :
    Settled (s.tryStartSweep echo n scope) := by
  unfold State.tryStartSweep
  split
  · refine settled_ite (fun _ => h.refuse _ _ _) fun _ => settled_ite (fun _ => h.refuse _ _ _) fun _ => ?_
    split
    · exact h.refuse _ _ _
    · exact h.replyDone _ _ _
    · exact h.replyDone _ _ _
    · exact settleDone_settled _ _ _ _
  · exact h.refuse _ _ _
  · exact h.refuse _ _ _

theorem tryPause_settled {s : State} (h : Settled s) (echo : Byte) (n : Nat) : Settled (s.tryPause echo n) := by
  unfold State.tryPause
  split
  · exact h.refuse _ _ _
  · split
    · exact h.refuse _ _ _
    · exact h.replyDone _ _ _
    · exact settleDone_settled _ _ _ _
    · exact settleDone_settled _ _ _ _

theorem assumeSource_settled {s : State} (h : Settled s) (echo : Byte) : Settled (s.assumeSource echo) := by
  refine settled_ite (fun _ => h.reply _ _ _ _ _) fun _ => ?_
  split
  · exact (changeRole_settled s .source).replyDone _ _ _
  · exact h.replyDone _ _ _
  · exact (drainCheck_settled (changeRole_settled s .draining)).reply _ _ _ _ _
  · exact h.reply _ _ _ _ _

theorem assumeSink_settled {s : State} (h : Settled s) (echo : Byte) (force : Bool) :
    Settled (s.assumeSink echo force) := by
  have hsink (u : State) : Settled ((u.changeRole .sink).replyDone echo 9 []) :=
    (changeRole_settled u .sink).replyDone _ _ _
  refine settled_ite (fun _ => h.reply _ _ _ _ _) fun _ => ?_
  split
  · exact hsink s
  · exact settled_ite (fun _ => hsink s) fun _ => settled_ite (fun _ => hsink _) fun _ => h.refuse _ _ _
  · exact h.replyDone _ _ _
  · exact h.reply _ _ _ _ _

theorem setOverride_settled {s : State} (h : Settled s) (echo : Byte) (v : Option Bool) :
    Settled (s.setOverride echo v) := by
  unfold State.setOverride
  split
  · exact h.refuse _ _ _
  · exact settled_ite (fun _ => h.replyDone _ _ _) fun _ => settleDone_settled _ _ _ _

theorem readFault_settled {s : State} (h : Settled s) (echo : Byte) : Settled (s.readFault echo) := by
  unfold State.readFault
  split
  · exact h.reply _ _ _ _ _
  · exact Settled.replyDone (h.withService (by rfl)) _ _ _

theorem warmReset_settled (s : State) : Settled s.warmReset := by
  have h := settle_settled s.warmBlocks
  unfold State.warmReset
  generalize s.warmBlocks.settle = u at h ⊢
  exact h.withService (by rfl)

/-! ### The loopback test -/

/-- Outside SOURCE and SINK the test record does not matter to what happens at once (R103). -/
theorem withTest_settled {s : State} (h : Settled s) (hr : s.role = .isolated) (x : TestRecord) :
    Settled (s.withLink { s.link with test := x }) := by
  have hs := (settled_iff s).1 h
  exact (settled_iff _).2 ⟨by simp [hr], hs.head, hs.lane, hs.stall, hs.position, hs.passed⟩

theorem linkTest_settled {s : State} (h : Settled s) (echo : Byte) (n : Nat) : Settled (s.linkTest echo n) :=
  settled_ite (fun _ => h.refuse _ _ _) fun _ => settled_ite (fun _ => h.refuse _ _ _) fun hr =>
    settled_ite (fun _ => h.reply _ _ _ _ _) fun _ => (withTest_settled h (not_not.1 hr) _).reply _ _ _ _ _

/-- A frame is in the loop only on an ISOLATED unit (R113). -/
theorem TestInv.isolated {s : State} (h : TestInv s) {k : BitVec 16} (hk : s.link.test.inLoop = some k) :
    s.role = .isolated := by
  unfold TestInv at h
  split at h
  · exact h.1
  · exact nomatch h.symm.trans hk

theorem grantTo_role (s : State) (g : Grantee) : (s.grantTo g).role = s.role := by
  cases g with
  | host =>
    unfold State.grantTo State.grantHost
    simp only
    split
    · rfl
    · split
      · rfl
      · split
        · rfl
        · rfl
        · rw [markDirty_eq]; rfl
        · unfold State.capture
          split <;> rfl
  | sweep =>
    unfold State.grantTo
    simp only
    split <;> rfl
  | apply =>
    unfold State.grantTo State.grantApply State.classifyApply
    simp only
    split
    · rfl
    · split
      · split
        · rfl
        · split
          · rw [markDirty_eq, suspendWindow_eq]; rfl
          · rw [markDirty_eq]; rfl
      · rfl

theorem examineAll_isolated (n : Nat) {s : State} (h : s.role = .isolated) :
    (State.examineAll n s).role = .isolated := by
  induction n generalizing s with
  | zero => exact h
  | succ n ih =>
    have hexamine : s.examine.role = .isolated := (examine_tables s).role.trans h
    have hdrain : s.examine.drainCheck = s.examine := if_neg (by simp [hexamine])
    have hnow : s.examineNow.role = .isolated := by
      unfold State.examineNow
      rw [hdrain]
      split
      · rw [(settle_same _).role_eq, hexamine]
      · exact h
    unfold State.examineAll
    split
    · exact ih hnow
    · exact h

/-- What is due at once on an ISOLATED unit leaves it ISOLATED. -/
theorem prompt_isolated {s : State} (h : s.role = .isolated) : s.prompt.role = .isolated := by
  have hgrant (u : State) (hu : u.role = .isolated) : u.grantNow.role = .isolated := by
    unfold State.grantNow
    split
    · exact hu
    · split
      · exact hu
      · rw [(settle_same _).role_eq]
        exact (grantTo_role u _).trans hu
  unfold State.prompt
  split
  · exact h
  · exact hgrant _ (examineAll_isolated _ h)

theorem testFrameReturn_settled {s : State} (htest : TestInv s) (h : Settled s) (bytes : List Byte) :
    ∃ t, execTestFrameReturn bytes s = .next t ∧ Settled t := by
  refine ⟨_, rfl, ?_⟩
  unfold State.take
  split
  · exact h
  · obtain ⟨-, -, -, hlink, -⟩ := prompt_aside s
    have hp := prompt_settled h
    beta_reduce
    split
    · exact hp
    · rename_i k hk
      have hr := prompt_isolated (htest.isolated (hlink ▸ hk))
      exact settled_ite (fun _ => (withTest_settled hp hr _).congr (raise_rest _ _)) fun _ => withTest_settled hp hr _

/-! ### Timers -/

theorem expireStall_settled {s : State} (h : Settled s) : Settled s.expireStall := by
  unfold State.expireStall
  split
  · split
    · exact h
    · split
      · exact settle_settled _
      all_goals exact h
  · exact h

theorem expireHold_settled {s : State} (h : Settled s) (tag : Tag) : Settled (s.expireHold tag) := by
  unfold State.expireHold
  split
  · split
    · exact h
    · exact settle_settled _
  · exact h

theorem foldl_settled {α : Type} {f : State → α → State} (hf : ∀ s a, Settled s → Settled (f s a)) (l : List α) {s : State}
    (h : Settled s) : Settled (l.foldl f s) := by
  induction l generalizing s with
  | nil => exact h
  | cons a l ih => exact ih (hf s a h)

theorem expireTimer_settled {s : State} (h : Settled s) (n : TimerName) : Settled (s.expireTimer n) := by
  cases n with
  | ack => exact settled_ite_settle _ h
  | probe => exact settled_ite_settle _ h
  | quiet => exact settled_ite_settle _ h
  | stall => exact expireStall_settled h
  | held => exact foldl_settled (fun s tag hs => expireHold_settled hs tag) _ h

theorem setTimers_settled {s : State} (h : Settled s) (echo : Byte) (t : Timers) : Settled (s.setTimers echo t) := by
  have hdue : Settled (s.withTimers t).expireDueTimers := by
    have hfold (l : List TimerName) : Settled (l.foldl State.expireTimer (s.withTimers t)) :=
      foldl_settled (fun s n hs => expireTimer_settled hs n) l (h.congr (withService_rest s _ (by rfl)))
    unfold State.expireDueTimers
    simp only
    split
    · exact hfold _
    · exact (hfold _).congr (withFreeCount_rest _ _)
  exact settled_ite (fun _ => h.reply _ _ _ _ _) fun _ => settled_ite (fun _ => h.reply _ _ _ _ _) fun _ =>
    settled_ite (fun _ => h.replyDone _ _ _) fun _ => hdue.replyDone _ _ _

/-! ### Every command and every step -/

/-- A frame that is noted, and where it counts acted on and settled (R100). -/
theorem receive_settled {s : State} (h : Settled s) {c : Prop} [Decidable c] (t : State) :
    Settled (if s.receives then if c then t.settle else s.noteReceipt else s) := by
  split
  · exact settled_ite_settle t (h.congr (noteReceipt_rest s))
  · exact h

theorem receiveHello_settled {s : State} (h : Settled s) (x : Hello) :
    ∃ t, execReceiveHello x s = .next t ∧ Settled t := by
  refine ⟨_, rfl, take_settled h fun u hu => ?_⟩
  split
  · split
    · exact hu
    · exact settle_settled _
    · split
      · exact hu.congr (noteReceipt_rest u)
      · exact settle_settled _
    · exact hu
  · exact hu

theorem damagedFrame_settled {s : State} (h : Settled s) (bytes : List Byte) :
    ∃ t, execDamagedFrame bytes s = .next t ∧ Settled t := by
  refine ⟨_, rfl, take_settled h fun u hu => ?_⟩
  split
  · exact settled_ite_settle _ (hu.congr (count_rest u _))
  · exact hu

theorem hostRequest_settled {s : State} (h : Settled s) (r : HostRequest) :
    ∃ t, execHostRequest r s = .next t ∧ Settled t := by
  refine ⟨_, rfl, take_settled h fun u hu => ?_⟩
  split
  · exact hu
  · split
    · exact hu.congr (offerFault_rest u _ _ _ _ _)
    · exact settle_settled _

theorem hostPortResets_settled {s : State} (h : Settled s) :
    (∃ t, execHostPortReset s = .next t ∧ Settled t) ∧ ∃ t, execHostPortResetRelease s = .next t ∧ Settled t := by
  refine ⟨⟨_, rfl, ?_⟩, _, rfl, (prompt_settled h).congr (resetLine_rest _ _)⟩
  split
  · exact h.congr (resetLine_rest s true)
  · split
    · exact prompt_settled h
    · exact hostPortReset_settled (prompt_settled h)

theorem memoryCompletion_settled {s : State} (h : Settled s) (c : Completion) :
    ∃ t, execMemoryCompletion c s = .next t ∧ Settled t := by
  refine ⟨_, rfl, take_settled h fun u hu => ?_⟩
  split
  · exact hu
  · exact settle_settled _

theorem laneSignalChange_settled {s : State} (h : Settled s) (signal : LaneSignal) :
    ∃ t, execLaneSignalChange signal s = .next t ∧ Settled t := by
  refine ⟨_, rfl, take_settled h fun u hu => ?_⟩
  split
  · exact hu
  · exact settle_settled _

theorem frameEnd_settled {s : State} (h : Settled s) : ∃ t, execFrameEnd s = .next t ∧ Settled t := by
  refine ⟨_, rfl, take_settled h fun u hu => ?_⟩
  split
  · exact hu
  · exact settleWith_settled _ _

/-- Every command leaves a settled unit settled (R33, R47, R71, R84, R103, R118, R147). -/
theorem exec_settled {s : State} (htest : TestInv s) (h : Settled s) (i : Instr) :
    ∃ t, exec i s = .next t ∧ Settled t := by
  cases i with
  | hostRequest r => exact hostRequest_settled h r
  | hostPortReset => exact (hostPortResets_settled h).1
  | hostPortResetRelease => exact (hostPortResets_settled h).2
  | coldReset edge => exact coldReset_settled edge h
  | portGrant => exact ⟨_, rfl, prompt_settled h⟩
  | memoryCompletion c => exact memoryCompletion_settled h c
  | applyHeadExamine =>
    refine ⟨_, rfl, ?_⟩
    unfold State.unlessHeld
    split
    · exact h
    · exact examineNow_settled h
  | drainEnd => exact ⟨_, rfl, take_settled h fun _ => drainCheck_settled⟩
  | stallExpiry => exact ⟨_, rfl, take_settled h fun _ => expireStall_settled⟩
  | holdExpiry tag => exact ⟨_, rfl, take_settled h fun _ hu => expireHold_settled hu tag⟩
  | ackTimerExpiry => exact ⟨_, rfl, take_settled h fun _ hu => expireTimer_settled hu .ack⟩
  | probeIdleExpiry => exact ⟨_, rfl, take_settled h fun _ hu => expireTimer_settled hu .probe⟩
  | silenceExpiry => exact ⟨_, rfl, take_settled h fun _ hu => expireTimer_settled hu .quiet⟩
  | helloRepeat => exact ⟨_, rfl, take_settled h fun _ hu => settled_ite_settle _ hu⟩
  | laneSignalChange signal => exact laneSignalChange_settled h signal
  | damagedFrame bytes => exact damagedFrame_settled h bytes
  | receiveHello x => exact receiveHello_settled h x
  | receiveDataFrame f => exact ⟨_, rfl, take_settled h fun _ hu => receive_settled hu _⟩
  | receiveProbe epoch => exact ⟨_, rfl, take_settled h fun _ hu => receive_settled hu _⟩
  | receiveAck epoch q f => exact ⟨_, rfl, take_settled h fun _ hu => receive_settled hu _⟩
  | receiveNak epoch q reason => exact ⟨_, rfl, take_settled h fun _ hu => receive_settled hu _⟩
  | receiveReport r => exact ⟨_, rfl, take_settled h fun _ hu => receive_settled hu _⟩
  | receiveTestFrame pattern payload =>
    refine ⟨_, rfl, take_settled h fun u hu => ?_⟩
    split
    · exact hu.congr (noteReceipt_rest u)
    · exact hu
  | frameEnd => exact frameEnd_settled h
  | testFrameReturn bytes => exact testFrameReturn_settled htest h bytes
  | badMessage bytes =>
    refine ⟨_, rfl, take_settled h fun u hu => ?_⟩
    exact settled_ite (fun _ => hu.reply _ _ _ _ _) fun _ => hu.reply _ _ _ _ _
  | unknownCommand echo code args => exact ⟨_, rfl, take_settled h fun _ hu => hu.reply _ _ _ _ _⟩
  | getStatus echo args => exact ⟨_, rfl, takeCommand_settled _ _ _ h fun _ hu => hu.replyDone _ _ _⟩
  | setWindow echo args => exact ⟨_, rfl, takeCommand_settled _ _ _ h fun _ hu => setWindow_settled hu _ _⟩
  | getWindow echo args =>
    refine ⟨_, rfl, takeCommand_settled _ _ _ h fun u hu => ?_⟩
    split
    · exact hu.refuse _ _ _
    · exact hu.replyDone _ _ _
  | enableWindow echo args => exact ⟨_, rfl, takeCommand_settled _ _ _ h fun _ hu => tryEnable_settled hu _ _⟩
  | disableWindow echo args =>
    refine ⟨_, rfl, takeCommand_settled _ _ _ h fun u hu => ?_⟩
    split
    · exact hu.refuse _ _ _
    · exact settled_ite (fun _ => settleDone_settled _ _ _ _) fun _ => hu.replyDone _ _ _
  | startSweep echo args => exact ⟨_, rfl, takeCommand_settled _ _ _ h fun _ hu => tryStartSweep_settled hu _ _ _⟩
  | pauseWindow echo args => exact ⟨_, rfl, takeCommand_settled _ _ _ h fun _ hu => tryPause_settled hu _ _⟩
  | assumeSource echo args => exact ⟨_, rfl, takeCommand_settled _ _ _ h fun _ hu => assumeSource_settled hu _⟩
  | assumeSink echo args =>
    refine ⟨_, rfl, takeCommand_settled _ _ _ h fun u hu => ?_⟩
    split
    · exact hu.refuse _ _ _
    · exact assumeSink_settled hu _ _
  | isolate echo args =>
    refine ⟨_, rfl, takeCommand_settled _ _ _ h fun u hu => ?_⟩
    exact settled_ite (fun _ => hu.replyDone _ _ _) fun _ => (changeRole_settled u .isolated).replyDone _ _ _
  | setTimers echo args => exact ⟨_, rfl, takeCommand_settled _ _ _ h fun _ hu => setTimers_settled hu _ _⟩
  | setMask echo args =>
    exact ⟨_, rfl, takeCommand_settled _ _ _ h fun _ hu => Settled.replyDone (hu.withService (by rfl)) _ _ _⟩
  | readEvents echo args =>
    exact ⟨_, rfl, takeCommand_settled _ _ _ h fun _ hu => Settled.replyDone (hu.withService (by rfl)) _ _ _⟩
  | readFault echo args => exact ⟨_, rfl, takeCommand_settled _ _ _ h fun _ hu => readFault_settled hu _⟩
  | getMarks echo args => exact ⟨_, rfl, takeCommand_settled _ _ _ h fun _ hu => hu.replyDone _ _ _⟩
  | setOverride echo args => exact ⟨_, rfl, takeCommand_settled _ _ _ h fun _ hu => setOverride_settled hu _ _⟩
  | getStats echo args => exact ⟨_, rfl, takeCommand_settled _ _ _ h fun _ hu => hu.replyDone _ _ _⟩
  | linkTest echo args => exact ⟨_, rfl, takeCommand_settled _ _ _ h fun _ hu => linkTest_settled hu _ _⟩
  | restart echo args =>
    exact ⟨_, rfl, takeCommand_settled _ _ _ h fun u _ => (warmReset_settled u).replyDone _ _ _⟩

/-- Settles O59: command by command, and a microsecond that passes is not looked at. -/
theorem stepsLeaveNothingUndone : Obligations.StepsLeaveNothingUndone := by
  intro s t htest h hstep
  have hexec (i : Instr) (u : State) (hu : TestInv u) (hs : Settled u) (hu' : exec i u = .next t) : Settled t := by
    obtain ⟨t', ht', ht⟩ := exec_settled hu hs i
    cases ht'.symm.trans hu'
    exact ht
  unfold step at hstep
  split at hstep
  · rename_i c rest _
    exact hexec c (s.withPending rest) htest (h.congr (withPending_rest s rest)) hstep
  · split at hstep
    · unfold State.chosen at hstep
      split at hstep
      · exact hexec _ _ htest h hstep
      · exact hexec _ (s.withFreeCount (s.freeCount + 1)) htest (h.congr (withFreeCount_rest s _)) hstep
    · injection hstep with hstep
      subst hstep
      unfold State.tick State.unlessHeld
      split
      · exact h
      · exact h.congr (withTime_rest s _)

end Sys2Proof.Machine
end

section
/-! The journal in order: what the journal's invariant says of its entries and the port, and what each change of them keeps. -/

namespace Sys2Proof.Machine

/-- The journal's invariant in the terms of the port, the entries and the next sequence (R19, R20, R21, R23, R28, R30). -/
structure Ordered (p : MemoryPort) (l : List JournalEntry) (next : Seq) : Prop where
  size : l.length ≤ Config.journalSize
  chain : chained l next
  oldest : l.Pairwise fun a b => b.sent = true → a.sent = true
  inFlight : l.countP (·.sent) ≤ Config.inFlightLimit
  everSent : ∀ e ∈ l, e.sent = true → e.everSent = true
  isOpen : ∀ e ∈ l, e.isOpen = true → e.sent = false ∧ p.capturing e.seq
  mask : ∀ e ∈ l, e.mask ≠ 0
  tags : ∀ e ∈ l, e.heldTags.length + (if e.isOpen then 1 else 0) ≤ Config.heldTagLimit
  tail : ∀ e ∈ l.dropLast, e.isOpen = false
  reserve : p.sweeping → l.length + Config.hostReserve < Config.journalSize

theorem sentCount_eq_countP (j : Journal) : j.sentCount = j.entries.countP (·.sent) :=
  List.countP_eq_length_filter.symm

theorem journalInv_iff (s : State) : JournalInv s ↔ Ordered s.port s.journal.entries s.journal.nextSeq := by
  unfold JournalInv EntryInv
  rw [sentCount_eq_countP]
  constructor
  · rintro ⟨hsize, hchain, holdest, hflight, hentry, htail, hreserve⟩
    exact ⟨hsize, hchain, holdest, hflight, fun e he => (hentry e he).1, fun e he => (hentry e he).2.1,
      fun e he => (hentry e he).2.2.1, fun e he => (hentry e he).2.2.2, htail, hreserve⟩
  · rintro ⟨hsize, hchain, holdest, hflight, hever, hopen, hmask, htags, htail, hreserve⟩
    exact ⟨hsize, hchain, holdest, hflight, fun e he => ⟨hever e he, hopen e he, hmask e he, htags e he⟩, htail, hreserve⟩

/-! ### Sequences -/

/-- Whether the sequences are consecutive is read from the sequences (R21). -/
theorem chained_congr {l l' : List JournalEntry} (h : l'.map JournalEntry.seq = l.map JournalEntry.seq) (next : Seq) :
    chained l' next ↔ chained l next := by
  induction l generalizing l' with
  | nil => rw [List.map_eq_nil_iff.1 h]
  | cons a l ih =>
    cases l' with
    | nil => exact nomatch h
    | cons b l' =>
      obtain ⟨hseq, hrest⟩ := List.cons.inj h
      have hlength : l'.length = l.length := by simpa using congrArg List.length hrest
      rw [chained, chained, ih hrest, hseq, hlength]

theorem chained_tail {a : JournalEntry} {l : List JournalEntry} {next : Seq} (h : chained (a :: l) next) :
    chained l next := h.2

/-- An entry that takes the next sequence continues the chain (R21). -/
theorem chained_append {l : List JournalEntry} {e : JournalEntry} {next : Seq} (h : chained l next)
    (he : e.seq = next) : chained (l ++ [e]) (next + 1) := by
  induction l with
  | nil => simp [chained, he]
  | cons a l ih =>
    obtain ⟨ha, hl⟩ := h
    refine ⟨?_, ih hl⟩
    have hone : BitVec.ofNat 16 (l.length + 1 + 1) = BitVec.ofNat 16 (l.length + 1) + 1 := by
      rw [BitVec.ofNat_add (l.length + 1) 1]
      rfl
    change a.seq + BitVec.ofNat 16 ((l ++ [e]).length + 1) = next + 1
    rw [List.length_append, List.length_singleton, hone, ← ha, BitVec.add_assoc]

/-! ### Entries changed in place -/

/-- `b` is `a` with, at most, tags released, and its sending state changed as R23 and R24 allow. -/
structure Revised (a b : JournalEntry) : Prop where
  seq : b.seq = a.seq
  isOpen : b.isOpen = a.isOpen
  mask : b.mask = a.mask
  tags : b.heldTags.length ≤ a.heldTags.length
  everSent : (a.sent = true → a.everSent = true) → b.sent = true → b.everSent = true
  sent : b.sent = true → a.sent = true ∨ a.isOpen = false

theorem Revised.refl (a : JournalEntry) : Revised a a := ⟨rfl, rfl, rfl, le_rfl, id, .inl⟩

theorem exists_of_forall₂ {α : Type} {R : α → α → Prop} {l l' : List α} (h : List.Forall₂ R l l') {b : α} (hb : b ∈ l') :
    ∃ a ∈ l, R a b := by
  induction h with
  | nil => exact nomatch hb
  | cons hab _ ih =>
    rcases List.mem_cons.1 hb with rfl | hb
    · exact ⟨_, List.mem_cons_self, hab⟩
    · obtain ⟨a, ha, hr⟩ := ih hb
      exact ⟨a, List.mem_cons_of_mem _ ha, hr⟩

theorem revised_seqs {l l' : List JournalEntry} (h : List.Forall₂ Revised l l') :
    l'.map JournalEntry.seq = l.map JournalEntry.seq := by
  induction h with
  | nil => rfl
  | cons hab _ ih => rw [List.map_cons, List.map_cons, hab.seq, ih]

/-- Entries revised one by one stay in order, if their sending states do (R20, R23, R28). -/
theorem Ordered.revised {p : MemoryPort} {l l' : List JournalEntry} {next : Seq} (h : Ordered p l next)
    (hr : List.Forall₂ Revised l l') (holdest : l'.Pairwise fun a b => b.sent = true → a.sent = true)
    (hflight : l'.countP (·.sent) ≤ Config.inFlightLimit) : Ordered p l' next := by
  have hlength := hr.length_eq
  have hdrop : List.Forall₂ Revised l.dropLast l'.dropLast := by
    rw [List.dropLast_eq_take, List.dropLast_eq_take, ← hlength]
    exact List.forall₂_take _ hr
  refine ⟨hlength ▸ h.size, (chained_congr (revised_seqs hr) next).2 h.chain, holdest, hflight, fun b hb => ?_,
    fun b hb hopen => ?_, fun b hb => ?_, fun b hb => ?_, fun b hb => ?_, fun hp => hlength ▸ h.reserve hp⟩
  · obtain ⟨a, ha, hab⟩ := exists_of_forall₂ hr hb
    exact hab.everSent (h.everSent a ha)
  · obtain ⟨a, ha, hab⟩ := exists_of_forall₂ hr hb
    obtain ⟨hsent, hcap⟩ := h.isOpen a ha (hab.isOpen ▸ hopen)
    refine ⟨Bool.eq_false_iff.2 fun hb' => ?_, hab.seq ▸ hcap⟩
    rcases hab.sent hb' with hs | hc
    · exact nomatch hsent.symm.trans hs
    · exact nomatch hc.symm.trans (hab.isOpen.symm.trans hopen)
  · obtain ⟨a, ha, hab⟩ := exists_of_forall₂ hr hb
    exact hab.mask ▸ h.mask a ha
  · obtain ⟨a, ha, hab⟩ := exists_of_forall₂ hr hb
    rw [hab.isOpen]
    exact (Nat.add_le_add_right hab.tags _).trans (h.tags a ha)
  · obtain ⟨a, ha, hab⟩ := exists_of_forall₂ hdrop hb
    exact hab.isOpen.trans (h.tail a ha)

/-- Entries changed but for their sending state. -/
theorem Ordered.map {p : MemoryPort} {l : List JournalEntry} {next : Seq} (h : Ordered p l next)
    (f : JournalEntry → JournalEntry) (hf : ∀ e, Revised e (f e) ∧ (f e).sent = e.sent) :
    Ordered p (l.map f) next := by
  have hsent : (fun x : JournalEntry => x.sent) ∘ f = fun x => x.sent := funext fun e => (hf e).2
  refine h.revised ?_ (List.pairwise_map.2 (h.oldest.imp fun hab => ?_)) ?_
  · exact List.forall₂_map_right_iff.2 (List.forall₂_same.2 fun e _ => (hf e).1)
  · rw [(hf _).2, (hf _).2]; exact hab
  · rw [List.countP_map, hsent]; exact h.inFlight

/-- The entries from index `k` on return to WAITING (R24). -/
theorem Ordered.rewound {p : MemoryPort} {l : List JournalEntry} {next : Seq} (h : Ordered p l next) (k : Nat) :
    Ordered p (rewindFrom k l) next := by
  have hwait (e : JournalEntry) : Revised e { e with sent := false } := ⟨rfl, rfl, rfl, le_rfl, fun _ => nofun, nofun⟩
  unfold rewindFrom
  refine h.revised ?_ (List.pairwise_append.2 ⟨h.oldest.sublist (List.take_sublist k l), ?_, ?_⟩) ?_
  · conv => lhs; rw [← List.take_append_drop k l]
    exact List.rel_append (List.forall₂_same.2 fun e _ => .refl e)
      (List.forall₂_map_right_iff.2 (List.forall₂_same.2 fun e _ => hwait e))
  · exact List.pairwise_map.2 (List.pairwise_of_forall fun _ _ => nofun)
  · rintro a - b hb
    obtain ⟨x, -, rfl⟩ := List.mem_map.1 hb
    exact nofun
  · have hzero : ((l.drop k).map fun e => { e with sent := false }).countP (·.sent) = 0 := by
      refine List.countP_eq_zero.2 fun b hb => ?_
      obtain ⟨x, -, rfl⟩ := List.mem_map.1 hb
      exact nofun
    rw [List.countP_append, hzero]
    exact ((List.take_sublist k l).countP_le).trans h.inFlight

/-! ### The oldest WAITING entry is sent -/

theorem sendFirst_oldest (l : List JournalEntry) (h : l.Pairwise fun a b => b.sent = true → a.sent = true) :
    (sendFirst l).Pairwise fun a b => b.sent = true → a.sent = true := by
  induction l with
  | nil => exact h
  | cons e l ih =>
    obtain ⟨-, hl⟩ := List.pairwise_cons.1 h
    unfold sendFirst
    split
    · rename_i he
      exact List.pairwise_cons.2 ⟨fun _ _ _ => he, ih hl⟩
    · exact List.pairwise_cons.2 ⟨fun _ _ _ => rfl, hl⟩

theorem sendFirst_countP (l : List JournalEntry) : (sendFirst l).countP (·.sent) ≤ l.countP (·.sent) + 1 := by
  induction l with
  | nil => exact Nat.zero_le _
  | cons e l ih =>
    unfold sendFirst
    split
    · rename_i he
      simpa [he] using ih
    · rename_i he
      simp [he]

theorem sendFirst_revised {l : List JournalEntry} {e : JournalEntry} (h : l.find? (fun x => !x.sent) = some e)
    (he : e.isOpen = false) : List.Forall₂ Revised l (sendFirst l) := by
  induction l with
  | nil => exact nomatch h
  | cons a l ih =>
    unfold sendFirst
    by_cases ha : a.sent = true
    · rw [if_pos ha]
      exact .cons (.refl a) (ih (by simpa [ha] using h))
    · rw [if_neg ha]
      obtain rfl : a = e := by simpa [ha] using h
      exact .cons ⟨rfl, rfl, rfl, le_rfl, fun _ _ => rfl, fun _ => .inr he⟩ (List.forall₂_same.2 fun x _ => .refl x)

/-- An entry that may go out is not open, is the oldest WAITING one, and fewer than 32 are SENT (R23, R118). -/
theorem sendable_some {j : Journal} {e : JournalEntry} (h : j.sendable = some e) :
    j.entries.find? (fun x => !x.sent) = some e ∧ e.isOpen = false ∧ j.entries.countP (·.sent) < Config.inFlightLimit := by
  unfold Journal.sendable at h
  split at h
  · exact nomatch h
  · rename_i x hx
    split at h
    · rename_i hc
      obtain rfl := Option.some.inj h
      rw [sentCount_eq_countP] at hc
      exact ⟨hx, hc⟩
    · exact nomatch h

theorem Ordered.sentFirst {p : MemoryPort} {j : Journal} (h : Ordered p j.entries j.nextSeq) {e : JournalEntry}
    (he : j.sendable = some e) : Ordered p (sendFirst j.entries) j.nextSeq := by
  obtain ⟨hfirst, hopen, hcount⟩ := sendable_some he
  exact h.revised (sendFirst_revised hfirst hopen) (sendFirst_oldest _ h.oldest)
    ((sendFirst_countP j.entries).trans hcount)

/-! ### Entries that leave and entries that join -/

theorem Ordered.nil (p : MemoryPort) (next : Seq) : Ordered p [] next where
  size := Nat.zero_le _
  chain := trivial
  oldest := .nil
  inFlight := Nat.zero_le _
  everSent := nofun
  isOpen := nofun
  mask := nofun
  tags := nofun
  tail := nofun
  reserve _ := by decide

/-- The head leaves (R35). -/
theorem Ordered.left {p : MemoryPort} {a : JournalEntry} {l : List JournalEntry} {next : Seq}
    (h : Ordered p (a :: l) next) : Ordered p l next where
  size := (Nat.le_succ _).trans h.size
  chain := chained_tail h.chain
  oldest := (List.pairwise_cons.1 h.oldest).2
  inFlight := ((List.sublist_cons_self a l).countP_le).trans h.inFlight
  everSent e he := h.everSent e (List.mem_cons_of_mem a he)
  isOpen e he := h.isOpen e (List.mem_cons_of_mem a he)
  mask e he := h.mask e (List.mem_cons_of_mem a he)
  tags e he := h.tags e (List.mem_cons_of_mem a he)
  tail e he := by
    refine h.tail e ?_
    cases l with
    | nil => exact nomatch he
    | cons b l => exact List.mem_cons_of_mem a he
  reserve hp := by have := h.reserve hp; simp only [List.length_cons] at this; omega

/-- With no captured write on the port no entry is open (R28). -/
theorem Ordered.closed {p : MemoryPort} {l : List JournalEntry} {next : Seq} (h : Ordered p l next)
    (hp : ∀ q, ¬ p.capturing q) (e : JournalEntry) (he : e ∈ l) : e.isOpen = false :=
  Bool.eq_false_iff.2 fun ho => hp _ (h.isOpen e he ho).2

/-- Another operation on the port, or none: what the open entry waits for stays, and a sweep read needs room (R28, R30). -/
theorem Ordered.withPort {p x : MemoryPort} {l : List JournalEntry} {next : Seq} (h : Ordered p l next)
    (hc : ∀ q, p.capturing q → x.capturing q)
    (hs : x.sweeping → p.sweeping ∨ l.length + Config.hostReserve < Config.journalSize) : Ordered x l next :=
  { h with
    isOpen := fun e he ho => ⟨(h.isOpen e he ho).1, hc _ (h.isOpen e he ho).2⟩
    reserve := fun hx => (hs hx).elim h.reserve id }

/-- A new entry joins a journal of which no entry is open: WAITING, with the next sequence, and open only while its write
is on the port (R21, R27, R30). -/
theorem Ordered.append {p x : MemoryPort} {l : List JournalEntry} {next : Seq} (h : Ordered p l next)
    (hclosed : ∀ e ∈ l, e.isOpen = false) (hlength : l.length < Config.journalSize) (hx : ¬ x.sweeping)
    {e : JournalEntry} (hseq : e.seq = next) (hsent : e.sent = false) (hmask : e.mask ≠ 0) (htags : e.heldTags = [])
    (hopen : e.isOpen = true → x.capturing e.seq) : Ordered x (l ++ [e]) (next + 1) := by
  have hmem {P : JournalEntry → Prop} (hl : ∀ a ∈ l, P a) (he : P e) : ∀ a ∈ l ++ [e], P a := fun a ha =>
    (List.mem_append.1 ha).elim (hl a) fun ha => List.mem_singleton.1 ha ▸ he
  refine ⟨by rw [List.length_append]; exact hlength, chained_append h.chain hseq,
    List.pairwise_append.2 ⟨h.oldest, List.pairwise_singleton _ _, fun a _ b hb => ?_⟩, ?_,
    hmem h.everSent (by simp [hsent]), hmem (fun a ha ho => ?_) fun ho => ⟨hsent, hopen ho⟩, hmem h.mask hmask,
    hmem h.tags ?_, ?_, fun hs => absurd hs hx⟩
  · rw [List.mem_singleton.1 hb, hsent]; exact nofun
  · rw [List.countP_append]
    simpa [hsent] using h.inFlight
  · exact nomatch (hclosed a ha).symm.trans ho
  · rw [htags]; split <;> decide
  · rw [List.dropLast_concat]; exact hclosed

/-- A captured write merges into a tail that was never sent and has a place for its tag (R26). -/
theorem Ordered.merged {p x : MemoryPort} {l : List JournalEntry} {next : Seq} {e : JournalEntry}
    (h : Ordered p (l ++ [e]) next) (hx : ¬ x.sweeping) (hsent : e.everSent = false)
    (htags : e.heldTags.length < Config.heldTagLimit) {mask : Mask} (hmask : mask ≠ 0) (data : LineData)
    (hcap : x.capturing e.seq) : Ordered x (l ++ [e.merge mask data]) next := by
  have hl : ∀ a ∈ l, a.isOpen = false := fun a ha => h.tail a (by rw [List.dropLast_concat]; exact ha)
  have hwait : e.sent = false := Bool.eq_false_iff.2 fun hs =>
    nomatch hsent.symm.trans (h.everSent e (by simp) hs)
  have hold {P : JournalEntry → Prop} (hall : ∀ a ∈ l ++ [e], P a) (a : JournalEntry) (ha : a ∈ l) : P a :=
    hall a (List.mem_append_left _ ha)
  have hmem {P : JournalEntry → Prop} (hl : ∀ a ∈ l, P a) (he : P (e.merge mask data)) :
      ∀ a ∈ l ++ [e.merge mask data], P a := fun a ha =>
    (List.mem_append.1 ha).elim (hl a) fun ha => List.mem_singleton.1 ha ▸ he
  refine ⟨by simpa using h.size, ?_, ?_, ?_, hmem (hold h.everSent) ?_, hmem (fun a ha ho => ?_) fun _ => ⟨hwait, hcap⟩,
    hmem (hold h.mask) fun hm => ?_, hmem (hold h.tags) htags, ?_, fun hs => absurd hs hx⟩
  · exact (chained_congr (by rw [List.map_append, List.map_append]; rfl) next).2 h.chain
  · obtain ⟨ho, -, -⟩ := List.pairwise_append.1 h.oldest
    refine List.pairwise_append.2 ⟨ho, List.pairwise_singleton _ _, fun a _ b hb => ?_⟩
    rw [List.mem_singleton.1 hb]
    exact fun hs => nomatch hwait.symm.trans hs
  · have hf := h.inFlight
    rw [List.countP_append] at hf ⊢
    simpa [JournalEntry.merge, hwait] using hf
  · exact fun hs => nomatch hwait.symm.trans hs
  · exact nomatch (hl a ha).symm.trans ho
  · exact hmask (BitVec.or_eq_zero_iff.1 hm).2
  · rw [List.dropLast_concat]; exact hl

/-- The captured write of the port completes: its entry is closed, with the tag that it may now hold (R28, R29). -/
theorem Ordered.close {p x : MemoryPort} {l : List JournalEntry} {next : Seq} (h : Ordered p l next) {q : Seq}
    (hq : ∀ r, p.capturing r → r = q) (hx : ¬ x.sweeping) (ok : Bool) (tag : Option Tag) :
    Ordered x (l.map fun e => if e.carries q then e.close ok tag else e) next := by
  have hclosed (e : JournalEntry) (he : e ∈ l) : (if e.carries q then e.close ok tag else e).isOpen = false := by
    split
    · rfl
    · rename_i hc
      refine Bool.eq_false_iff.2 fun ho => hc ?_
      simp [JournalEntry.carries, ho, hq _ (h.isOpen e he ho).2]
  have hkeep (e : JournalEntry) : (if e.carries q then e.close ok tag else e).sent = e.sent ∧
      (if e.carries q then e.close ok tag else e).everSent = e.everSent ∧
      (if e.carries q then e.close ok tag else e).seq = e.seq ∧
      (if e.carries q then e.close ok tag else e).mask = e.mask := by
    split <;> exact ⟨rfl, rfl, rfl, rfl⟩
  refine ⟨by rw [List.length_map]; exact h.size, ?_, List.pairwise_map.2 (h.oldest.imp fun {a b} hab => ?_), ?_, ?_, ?_, ?_, ?_,
    ?_, fun hs => absurd hs hx⟩
  · refine (chained_congr ?_ next).2 h.chain
    rw [List.map_map]
    exact List.map_congr_left fun e _ => (hkeep e).2.2.1
  · rw [(hkeep a).1, (hkeep b).1]; exact hab
  · rw [List.countP_map]
    exact (le_of_eq (List.countP_congr fun e _ => by simp only [Function.comp, (hkeep e).1])).trans h.inFlight
  · simp only [List.forall_mem_map, hkeep]; exact h.everSent
  · simp only [List.forall_mem_map]
    exact fun e he ho => nomatch (hclosed e he).symm.trans ho
  · simp only [List.forall_mem_map, hkeep]; exact h.mask
  · simp only [List.forall_mem_map]
    intro e he
    rw [hclosed e he]
    have ht := h.tags e he
    by_cases hc : e.carries q = true
    · rw [if_pos hc]
      have hopen : e.isOpen = true := (Bool.and_eq_true_iff.1 hc).2
      have hone : tag.toList.length ≤ 1 := by cases tag <;> simp
      rw [if_pos hopen] at ht
      simp only [JournalEntry.close, List.length_append, Bool.false_eq_true, if_false]
      omega
    · rw [if_neg hc]
      simp only [Bool.false_eq_true, if_false]
      omega
  · intro e he
    obtain ⟨x, hx, rfl⟩ := List.mem_map.1 (List.mem_of_mem_dropLast he)
    exact hclosed x hx

end Sys2Proof.Machine
end

section
/-! The moves of the journal. What one command does to the journal's entries and to the operation on the port is a chain of
a few moves, each of which keeps the journal in order; none of them touches the queue of commands. -/

namespace Sys2Proof.Machine

/-! ### Moves -/

/-- `t` has the operation on the port, the entries, the next sequence and the queue of commands of `s`. -/
structure SameJournal (s t : State) : Prop where
  op : t.port.op = s.port.op
  entries : t.journal.entries = s.journal.entries
  nextSeq : t.journal.nextSeq = s.journal.nextSeq
  pending : t.pending = s.pending

/-- One move of the journal, with what the model has checked when it makes it. -/
inductive JournalMove : State → State → Prop
  /-- Everything else. -/
  | same {s t : State} (h : SameJournal s t) : JournalMove s t
  /-- The journal is emptied (R38, R39, R182). -/
  | emptied {s t : State} (he : t.journal.entries = []) (hp : t.pending = s.pending) : JournalMove s t
  /-- Entries change but for their sending state; tags can only go (R36, R37, R40). -/
  | mapped {s : State} (f : JournalEntry → JournalEntry) (hf : ∀ e, Revised e (f e) ∧ (f e).sent = e.sent) :
      JournalMove s (s.withEntries (s.journal.entries.map f))
  /-- A rewind (R24). -/
  | rewound {s : State} (k : Nat) : JournalMove s (s.withEntries (rewindFrom k s.journal.entries))
  /-- The entry at the send cursor goes out (R23). -/
  | sent {s : State} {e : JournalEntry} (he : s.journal.sendable = some e) :
      JournalMove s (s.withEntries (sendFirst s.journal.entries))
  /-- The head leaves (R35). -/
  | left {s : State} {e : JournalEntry} {rest : List JournalEntry} (h : s.journal.entries = e :: rest) :
      JournalMove s (s.withEntries rest)
  /-- Another operation stands on the port, or none: the captured write stays, and a sweep read needs room (R28, R85). -/
  | port {s : State} (x : MemoryPort) (hc : ∀ q, s.port.capturing q → x.capturing q)
      (hs : x.sweeping → s.port.sweeping ∨ s.journal.entries.length + Config.hostReserve < Config.journalSize) :
      JournalMove s (s.withPort x)
  /-- A captured write with room goes on the idle port (R25 to R28). -/
  | captured {s : State} (w : WinIdx) (line : Line) (mask : Mask) (data : LineData) (poisoned : Bool) (x : MemoryPort)
      (hop : s.port.op = none) (hm : mask ≠ 0) (hroom : s.hasRoom w line poisoned = true)
      (hx : x.capturing (s.capture w line mask data poisoned).journal.tailSeq) :
      JournalMove s ((s.capture w line mask data poisoned).withPort x)
  /-- The captured write on the port completes (R28, R29). -/
  | closed {s : State} (q : Seq) (ok : Bool) (tag : Option Tag) (hq : ∀ r, s.port.capturing r → r = q) :
      JournalMove s (s.idlePort.closeEntry q ok tag)
  /-- The sweep read on the port completes and its entry joins the journal (R30). -/
  | swept {s : State} (e : JournalEntry) (hp : s.port.sweeping) (hsent : e.sent = false) (hopen : e.isOpen = false)
      (hm : e.mask ≠ 0) (ht : e.heldTags = []) : JournalMove s (s.idlePort.withJournal (s.journal.append e))

/-- A chain of moves of the journal. -/
abbrev JournalMoves : State → State → Prop := Relation.ReflTransGen JournalMove

theorem JournalMove.moves {s t : State} (h : JournalMove s t) : JournalMoves s t := Relation.ReflTransGen.single h

theorem capturing_not_sweeping {p : MemoryPort} {q : Seq} (h : p.capturing q) : ¬ p.sweeping := by
  rcases p with ⟨_ | ⟨line, access, owner⟩, n⟩
  · exact nofun
  · cases owner with
    | sweep w d => cases access <;> exact nomatch h
    | host tag grant => exact nofun
    | apply e w d => exact nofun

theorem idle_not_capturing {p : MemoryPort} (h : p.op = none) (q : Seq) : ¬ p.capturing q := by
  unfold MemoryPort.capturing
  rw [h]
  exact nofun

theorem idle_not_sweeping {p : MemoryPort} (h : p.op = none) : ¬ p.sweeping := by
  unfold MemoryPort.sweeping
  rw [h]
  exact nofun

/-- A captured write with room leaves the journal in order, its entry open and the tail (R25 to R28). -/
theorem Ordered.captured {s : State} (h : Ordered s.port s.journal.entries s.journal.nextSeq) {w : WinIdx} {line : Line}
    {mask : Mask} (data : LineData) {poisoned : Bool} {x : MemoryPort} (hop : s.port.op = none) (hm : mask ≠ 0)
    (hroom : s.hasRoom w line poisoned = true)
    (hx : x.capturing (s.capture w line mask data poisoned).journal.tailSeq) :
    Ordered x (s.capture w line mask data poisoned).journal.entries
      (s.capture w line mask data poisoned).journal.nextSeq := by
  have hsweep := capturing_not_sweeping hx
  by_cases hmerge : s.merges w line poisoned = true
  · obtain ⟨-, -, e, hlast, -, hsent, -, htags, -⟩ := (merges_iff s w line poisoned).1 hmerge
    obtain ⟨front, hfront⟩ := List.getLast?_eq_some_iff.1 hlast
    have hc := capture_merged (mask := mask) (data := data) hfront hmerge
    rw [hc] at hx ⊢
    have htail : (s.withEntries (front ++ [e.merge mask data])).journal.tailSeq = e.seq :=
      tailSeq_append (e := e.merge mask data) rfl
    rw [htail] at hx
    rw [hfront] at h
    exact h.merged hsweep hsent htags hm data hx
  · have hc := capture_appended (mask := mask) (data := data) (Bool.eq_false_iff.2 hmerge)
    rw [hc] at hx ⊢
    have htail := tailSeq_append (j := (s.capture w line mask data poisoned).journal) (by rw [hc]; rfl)
    rw [hc] at htail
    rw [htail] at hx
    have hlength := ((hasRoom_iff s w line poisoned).1 hroom).resolve_left hmerge
    exact h.append (h.closed (idle_not_capturing hop)) hlength hsweep rfl rfl hm rfl fun _ => hx

/-- Each move keeps the journal in order. -/
theorem journalInv_move {s t : State} (h : JournalMove s t) (hs : JournalInv s) : JournalInv t := by
  rw [journalInv_iff] at hs ⊢
  cases h with
  | same h =>
    have hc : t.port.capturing = s.port.capturing := by unfold MemoryPort.capturing; rw [h.op]
    have hp : t.port.sweeping = s.port.sweeping := by unfold MemoryPort.sweeping; rw [h.op]
    rw [h.entries, h.nextSeq]
    exact hs.withPort (fun q => by rw [hc]; exact id) fun hx => .inl (hp ▸ hx)
  | emptied he hp => rw [he]; exact .nil _ _
  | mapped f hf => exact hs.map f hf
  | rewound k => exact hs.rewound k
  | sent he => exact hs.sentFirst he
  | left h => rw [h] at hs; exact hs.left
  | port x hc hx => exact hs.withPort hc hx
  | captured w line mask data poisoned x hop hm hroom hx => exact hs.captured data hop hm hroom hx
  | closed q ok tag hq => exact hs.close hq (idle_not_sweeping rfl) ok tag
  | swept e hp hsent hopen hm ht =>
    have hlength := hs.reserve hp
    exact hs.append (hs.closed fun q hq => capturing_not_sweeping hq hp) (by omega) (idle_not_sweeping rfl) rfl hsent hm ht
      fun ho => nomatch hopen.symm.trans ho

theorem journalMoves_keep {s t : State} (h : JournalMoves s t) (hs : JournalInv s) : JournalInv t := by
  induction h with
  | refl => exact hs
  | tail _ hm ih => exact journalInv_move hm ih

/-- No move touches the queue of commands. -/
theorem journalMoves_pending {s t : State} (h : JournalMoves s t) : t.pending = s.pending := by
  have hmove : ∀ {u v : State}, JournalMove u v → v.pending = u.pending := by
    intro u v h
    cases h with
    | same h => exact h.pending
    | emptied he hp => exact hp
    | captured => unfold State.capture; split <;> rfl
    | mapped | rewound | sent | left | port | closed | swept => rfl
  induction h with
  | refl => rfl
  | tail _ hm ih => exact (hmove hm).trans ih

/-! ### Chains with a condition -/

theorem journalMoves_ite {c : Prop} [Decidable c] {s a b : State} (ha : c → JournalMoves s a)
    (hb : ¬ c → JournalMoves s b) : JournalMoves s (if c then a else b) := by
  split
  · exact ha ‹_›
  · exact hb ‹_›

theorem journalMoves_ite_self {c : Prop} [Decidable c] {s t u : State} (h : JournalMoves s t)
    (hu : c → JournalMoves t u) : JournalMoves s (if c then u else t) :=
  journalMoves_ite (fun hc => h.trans (hu hc)) fun _ => h

theorem foldl_journal {α : Type} (f : State → α → State) (hf : ∀ s a, JournalMoves s (f s a)) (l : List α) (s : State) :
    JournalMoves s (l.foldl f s) := by
  induction l generalizing s with
  | nil => exact .refl
  | cons a l ih => exact (hf s a).trans (ih _)

/-! ### The same journal -/

theorem SameJournal.refl (s : State) : SameJournal s s := ⟨rfl, rfl, rfl, rfl⟩

theorem SameJournal.trans {s t u : State} (h : SameJournal s t) (k : SameJournal t u) : SameJournal s u :=
  ⟨k.op.trans h.op, k.entries.trans h.entries, k.nextSeq.trans h.nextSeq, k.pending.trans h.pending⟩

theorem SameJournal.moves {s t : State} (h : SameJournal s t) : JournalMoves s t := (JournalMove.same h).moves

theorem SameJournal.ite {c : Prop} [Decidable c] {s a b : State} (ha : c → SameJournal s a) (hb : ¬ c → SameJournal s b) :
    SameJournal s (if c then a else b) := by
  split
  · exact ha ‹_›
  · exact hb ‹_›

theorem withHost_journal_same (s : State) (x : HostPort) : SameJournal s (s.withHost x) := ⟨rfl, rfl, rfl, rfl⟩
theorem withWindows_journal_same (s : State) (x : Vector Window 16) : SameJournal s (s.withWindows x) :=
  ⟨rfl, rfl, rfl, rfl⟩
theorem withDirty_journal_same (s : State) (x : List Nat) : SameJournal s (s.withDirty x) := ⟨rfl, rfl, rfl, rfl⟩
theorem withSweep_journal_same (s : State) (x : SweepEngine) : SameJournal s (s.withSweep x) := ⟨rfl, rfl, rfl, rfl⟩
theorem withLink_journal_same (s : State) (x : Link) : SameJournal s (s.withLink x) := ⟨rfl, rfl, rfl, rfl⟩
theorem withSeq_journal_same (s : State) (x : Sequencer) : SameJournal s (s.withSeq x) := ⟨rfl, rfl, rfl, rfl⟩
theorem withRx_journal_same (s : State) (x : Receiver) : SameJournal s (s.withRx x) := ⟨rfl, rfl, rfl, rfl⟩
theorem withRole_journal_same (s : State) (x : Role) : SameJournal s (s.withRole x) := ⟨rfl, rfl, rfl, rfl⟩
theorem withService_journal_same (s : State) (x : Service) : SameJournal s (s.withService x) := ⟨rfl, rfl, rfl, rfl⟩
theorem withPassedOver_journal_same (s : State) (n : Nat) : SameJournal s (s.withPassedOver n) := ⟨rfl, rfl, rfl, rfl⟩
theorem withFreeCount_journal_same (s : State) (n : Nat) : SameJournal s (s.withFreeCount n) := ⟨rfl, rfl, rfl, rfl⟩
theorem reply_journal (s : State) (echo code : Byte) (st : ServiceStatus) (r : Reason) (l : List Byte) :
    JournalMoves s (s.reply echo code st r l) := (withService_journal_same s _).moves
theorem replyDone_journal (s : State) (echo code : Byte) (l : List Byte) :
    JournalMoves s (s.replyDone echo code l) := reply_journal s echo code .done .noReason l
theorem refuse_journal (s : State) (echo code : Byte) (r : Reason) :
    JournalMoves s (s.refuse echo code r) := reply_journal s echo code .refused r []
theorem offerFault_same (s : State) (k : FaultKind) (w : Option WinIdx) (l : Option Line) (q : Option Seq)
    (e : Option Epoch) : SameJournal s (s.offerFault k w l q e) := withService_journal_same s _

theorem answerTags_same (s : State) (tags : List Tag) (st : HostStatus) : SameJournal s (s.answerTags tags st) := by
  rw [answerTags_eq]; exact withHost_journal_same s _

theorem suspendWhere_same (s : State) (p : Window → Bool) (cause : SuspendCause) :
    SameJournal s (s.suspendWhere p cause) := by
  rw [suspendWhere_eq]; exact ⟨rfl, rfl, rfl, rfl⟩

theorem suspendWindow_same (s : State) (w : WinIdx) (cause : SuspendCause) : SameJournal s (s.suspendWindow w cause) := by
  rw [suspendWindow_eq]; exact ⟨rfl, rfl, rfl, rfl⟩

theorem markDirty_same (s : State) (w : WinIdx) (g : Nat) : SameJournal s (s.markDirty w g) := by
  rw [markDirty_eq]; exact withDirty_journal_same s _

theorem markWindow_same (s : State) (w : WinIdx) : SameJournal s (s.markWindow w) := by
  rw [markWindow_eq]; exact withDirty_journal_same s _

theorem markAll_same (s : State) : SameJournal s s.markAll := by
  rw [markAll_eq]; exact withDirty_journal_same s _

theorem sweepTest_same (s : State) (w : WinIdx) : SameJournal s (s.sweepTest w) :=
  .ite (fun _ => ⟨rfl, rfl, rfl, rfl⟩) fun _ => .refl s

theorem finishEntry_same (s : State) (e : ApplyEntry) (how : Finish) : SameJournal s (s.finishEntry e how) := by
  rw [finishEntry_eq]; exact ⟨rfl, rfl, rfl, rfl⟩

theorem examineFrom_same (l : List ApplyEntry) (s : State) : SameJournal s (State.examineFrom l s) := by
  induction l generalizing s with
  | nil => exact .refl s
  | cons e l ih =>
    unfold State.examineFrom
    refine .ite (fun _ => .refl s) fun _ => .ite (fun _ => (finishEntry_same s e _).trans (ih _)) fun _ => ?_
    split
    · exact .refl s
    · exact (finishEntry_same s e _).trans (ih _)

theorem examine_same (s : State) : SameJournal s s.examine := examineFrom_same _ s

/-! ### What comes about at once -/

theorem sourceFrame_journal (s : State) (probe : Bool) : JournalMoves s (s.sourceFrame probe) := by
  unfold State.sourceFrame
  split
  · rename_i e he
    have hbegin : SameJournal s (s.beginFrame (.data (e.frame s.link.epoch))) := withLink_journal_same s _
    have hsent : JournalMove (s.beginFrame (.data (e.frame s.link.epoch)))
        ((s.beginFrame (.data (e.frame s.link.epoch))).withEntries (sendFirst s.journal.entries)) := .sent he
    exact hbegin.moves.trans (hsent.moves.trans (withSeq_journal_same _ _).moves)
  · exact journalMoves_ite (fun _ => SameJournal.moves ⟨rfl, rfl, rfl, rfl⟩) fun _ => .refl

theorem chooseFrame_journal (s : State) (probe : Bool) : JournalMoves s (s.chooseFrame probe) := by
  cases hl : s.link.lane with
  | some f => rw [chooseFrame_busy probe hl]
  | none =>
    rcases sender_cases s with hin | hin | ⟨hr, hh⟩ | ⟨hr, hh⟩ | hq
    · rw [chooseFrame_source probe hl hin]; exact sourceFrame_journal s probe
    · rw [chooseFrame_sink probe hl hin]
      unfold State.sinkFrame
      split
      · exact SameJournal.moves ⟨rfl, rfl, rfl, rfl⟩
      · exact SameJournal.moves ⟨rfl, rfl, rfl, rfl⟩
      · exact journalMoves_ite (fun _ => SameJournal.moves ⟨rfl, rfl, rfl, rfl⟩) fun _ =>
          journalMoves_ite (fun _ => SameJournal.moves ⟨rfl, rfl, rfl, rfl⟩) fun _ => .refl
    · rw [chooseFrame_hailSource probe hl hr hh]
      exact journalMoves_ite (fun _ => SameJournal.moves ⟨rfl, rfl, rfl, rfl⟩) fun _ => .refl
    · rw [chooseFrame_hailSink probe hl hr hh]
      exact journalMoves_ite (fun _ => SameJournal.moves ⟨rfl, rfl, rfl, rfl⟩) fun _ => .refl
    · rw [chooseFrame_quiet probe hq]

theorem enterHail_journal_same (s : State) : SameJournal s s.enterHail := by
  rw [enterHail_eq]; exact withLink_journal_same s _

theorem settleWith_journal (s : State) (probe : Bool) : JournalMoves s (s.settleWith probe) := by
  have hheads : SameJournal s (State.answerHeads s.enterHail.host.queue s.enterHail) := by
    rw [answerHeads_eq]; exact (enterHail_journal_same s).trans (withHost_journal_same _ _)
  have hrest (u : State) : SameJournal u u.timeStall.choosePosition.clearPassedOver := by
    rw [clearPassedOver_eq, choosePosition_eq, timeStall_eq]
    exact ⟨rfl, rfl, rfl, rfl⟩
  exact hheads.moves.trans ((chooseFrame_journal _ probe).trans (hrest _).moves)

theorem settle_journal (s : State) : JournalMoves s s.settle := settleWith_journal s false

/-! ### Link loss and role changes -/

theorem convert_journal (s : State) : JournalMoves s s.convert := by
  rw [convert_eq, discard_eq, answerTags_eq]
  refine (JournalMove.emptied ?_ ?_).moves <;> rfl

theorem discard_journal (s : State) : JournalMoves s s.discard := by
  rw [discard_eq, answerTags_eq]
  refine (JournalMove.emptied ?_ ?_).moves <;> rfl

theorem linkLoss_journal (s : State) (cause : SuspendCause) : JournalMoves s (s.linkLoss cause) := by
  have hleave : SameJournal s (s.leaveLink.raise .linkDown) := ⟨rfl, rfl, rfl, rfl⟩
  unfold State.linkLoss
  refine journalMoves_ite (fun _ => ?_) fun _ => .refl
  cases s.role with
  | source =>
    exact (hleave.trans (suspendWhere_same _ Window.capturing cause)).moves.trans
      ((convert_journal _).trans (withSeq_journal_same _ _).moves)
  | sink => exact (hleave.trans (withRx_journal_same _ _)).moves
  | isolated => exact hleave.moves
  | draining => exact hleave.moves

theorem linkUp_same (s : State) : SameJournal s s.linkUp :=
  .ite (fun _ => ⟨rfl, rfl, rfl, rfl⟩) fun _ => ⟨rfl, rfl, rfl, rfl⟩

theorem hailHello_same (s : State) (h : Hello) : SameJournal s (s.hailHello h) := by
  have hadopt (e : Epoch) (b : Seq) : SameJournal s (s.adopt e b) := by
    have hbefore : SameJournal s ((s.withLink { s.link with epoch := e }).withRx
        { s.rx with
          expected := b, lastApplied := b - 1, applyFaults := 0, nakOutstanding := false, nakSlot := none
          ackPending := false }) := ⟨rfl, rfl, rfl, rfl⟩
    exact hbefore.trans ((linkUp_same _).trans (withRx_journal_same _ _))
  unfold State.hailHello
  split
  · exact .ite (fun _ => linkUp_same s) fun _ => .refl s
  · exact ⟨rfl, rfl, rfl, rfl⟩
  · exact .ite (fun _ => hadopt _ _) fun _ => .refl s
  all_goals exact .refl s

theorem roleLink_journal (s : State) (new : Role) : JournalMoves s (s.roleLink new) := by
  have hleave : SameJournal s s.leaveLink := ⟨rfl, rfl, rfl, rfl⟩
  have hconv (t : State) (h : JournalMoves s t) :
      JournalMoves s (if s.role = .source ∧ new = .isolated then t.convert else t) :=
    journalMoves_ite_self h fun _ => convert_journal t
  unfold State.roleLink
  cases s.link.state with
  | up => exact hconv _ (linkLoss_journal s .role)
  | hail => exact hconv _ hleave.moves
  | clash => exact hconv _ hleave.moves
  | down => exact hconv _ .refl

theorem changeRole_journal (s : State) (new : Role) : JournalMoves s (s.changeRole new) := by
  have hwindows (u : State) (old : Role) : SameJournal u (u.roleWindows old new) :=
    .ite (fun _ => suspendWhere_same u _ _) fun _ => .ite (fun _ => suspendWhere_same u _ _) fun _ => .refl u
  have hdirty (u : State) (old : Role) : SameJournal u (u.roleDirty old new) :=
    .ite (fun _ => withDirty_journal_same u _) fun _ => .ite (fun _ => markAll_same u) fun _ => .refl u
  exact (roleLink_journal s new).trans
    (((withRole_journal_same _ new).trans ((hwindows _ s.role).trans
      ((hdirty _ s.role).trans (withService_journal_same _ _)))).moves.trans (settle_journal _))

theorem drainCheck_journal (s : State) : JournalMoves s s.drainCheck :=
  journalMoves_ite_self .refl fun _ => (changeRole_journal s .source).trans (withService_journal_same _ _).moves

theorem warmReset_journal (s : State) : JournalMoves s s.warmReset := by
  have hblocks : JournalMove s s.warmBlocks := .emptied (by rw [warmBlocks_eq]) (warmBlocks_fields s).2.2.2.1
  exact hblocks.moves.trans ((settle_journal _).trans (withService_journal_same _ _).moves)

/-! ### Grants -/

/-- An operation that is no sweep read goes on the idle port. -/
theorem putOnPort_journal (s : State) (line : Line) (access : Access) (owner : Owner) (h : s.port.op = none)
    (ho : ∀ w d, owner ≠ .sweep w d) : JournalMoves s (s.putOnPort line access owner) := by
  refine (JournalMove.port _ (fun q hq => absurd hq (idle_not_capturing h q)) fun hs => ?_).moves
  cases owner with
  | sweep w d => exact absurd rfl (ho w d)
  | host tag grant => exact hs.elim
  | apply e w d => exact hs.elim

/-- A head that is READY goes on the idle port (R25 to R28, R58). -/
theorem grantHost_journal {s : State} {r : QueuedRequest} {rest : List QueuedRequest} (hop : s.port.op = none)
    (hready : s.condition r = .ready) : JournalMoves s (s.grantHost r rest) := by
  have htaken : SameJournal s (s.headTaken rest) := ⟨rfl, rfl, rfl, rfl⟩
  have hput (t : State) (h : SameJournal s t) (access : Access) (tag : Option Tag) (grant : HostGrant) :
      JournalMoves s (t.putOnPort r.line access (.host tag grant)) :=
    h.moves.trans (putOnPort_journal t r.line access _ (h.op.trans hop) nofun)
  cases hr : r.op with
  | read =>
    unfold State.grantHost
    simp only [hr]
    exact hput _ htaken _ _ _
  | write mask data p =>
    cases hc : s.classify r.line with
    | capture w =>
      have hm : mask ≠ 0 := by
        rintro rfl
        exact nomatch (condition_empty hr).symm.trans hready
      have hroom : s.hasRoom w r.line p = true := by
        rw [condition_capture hr hm hc] at hready
        exact of_not_not fun h => nomatch (if_neg h).symm.trans hready
      rw [grantHost_capture hr hc]
      refine htaken.moves.trans (JournalMove.moves ?_)
      refine JournalMove.captured w r.line mask data p _ hop hm hroom ?_
      rfl
    | pass =>
      unfold State.grantHost
      simp only [hr, hc]
      exact hput _ htaken _ _ _
    | fence =>
      unfold State.grantHost
      simp only [hr, hc]
      exact hput _ htaken _ _ _
    | track w =>
      unfold State.grantHost
      simp only [hr, hc]
      exact hput _ (htaken.trans (markDirty_same _ _ _)) _ _ _

/-- A sweep read goes on the idle port while the host reserve stays free (R32, R85). -/
theorem grantSweep_journal {s : State} {p : SweepPosition} (hop : s.port.op = none) (h : s.sweepCandidate = true) :
    JournalMoves s (s.grantSweep p) := by
  have hreserve : s.journal.entries.length + Config.hostReserve < Config.journalSize := by
    unfold State.sweepCandidate at h
    exact of_decide_eq_true (Bool.and_eq_true_iff.1 h).2
  have hport : JournalMove s (s.withPort (s.grantSweep p).port) :=
    .port _ (fun q hq => absurd hq (idle_not_capturing hop q)) fun _ => .inr hreserve
  exact hport.moves.trans (SameJournal.moves ⟨rfl, rfl, rfl, rfl⟩)

theorem grantApply_journal {s : State} {e : ApplyEntry} (hop : s.port.op = none) : JournalMoves s (s.grantApply e) := by
  have hclass : SameJournal s (s.classifyApply e.target) := by
    unfold State.classifyApply
    refine .ite (fun _ => ?_) fun _ => .refl s
    split
    · exact .refl s
    · exact .ite (fun _ => (suspendWindow_same s _ _).trans (markDirty_same _ _ _)) fun _ => markDirty_same s _ _
  exact hclass.moves.trans (putOnPort_journal _ _ _ _ (hclass.op.trans hop) nofun)

/-- The grantee is a candidate: the host by a READY head, the sweep engine while the apply head is none (R68). -/
def State.requests (s : State) : Grantee → Prop
  | .host => s.headCondition = some .ready
  | .sweep => s.applyCandidate = false ∧ s.sweepCandidate = true
  | .apply => s.applyCandidate = true

theorem internalCandidate_requests {s : State} (h : s.internalStands = true) : s.requests s.internalCandidate := by
  unfold State.internalCandidate
  split
  · assumption
  · rename_i ha
    have hnone : s.applyCandidate = false := by simpa using ha
    exact ⟨hnone, by simpa [State.internalStands, hnone] using h⟩

/-- Whom the arbiter names is a candidate (R68, R70). -/
theorem arbiterChoice_requests {s : State} {g : Grantee} {n : Nat} (h : s.arbiterChoice = some (g, n)) :
    s.requests g := by
  have hinternal (hs : s.internalStands = true) (m : Nat) (hg : some (s.internalCandidate, m) = some (g, n)) :
      s.requests g := by
    obtain ⟨rfl, -⟩ := Prod.mk.inj (Option.some.inj hg)
    exact internalCandidate_requests hs
  unfold State.arbiterChoice at h
  split at h
  · rename_i hc
    obtain ⟨rfl, -⟩ := Prod.mk.inj (Option.some.inj h)
    exact hc.1
  · split at h
    · rename_i hc
      obtain ⟨rfl, -⟩ := Prod.mk.inj (Option.some.inj h)
      exact hc.1
    · split at h
      · rename_i hc
        split at h
        · split at h
          · obtain ⟨rfl, -⟩ := Prod.mk.inj (Option.some.inj h)
            exact hc
          · exact hinternal ‹_› _ h
        · obtain ⟨rfl, -⟩ := Prod.mk.inj (Option.some.inj h)
          exact hc
      · split at h
        · exact hinternal ‹_› _ h
        · exact nomatch h

theorem head_of_condition {s : State} {c : HeadCondition} (h : s.headCondition = some c) :
    ∃ r rest, s.host.queue = r :: rest ∧ s.condition r = c := by
  cases hq : s.host.queue with
  | nil => exact nomatch (headCondition_nil hq).symm.trans h
  | cons r rest => exact ⟨r, rest, rfl, Option.some.inj ((headCondition_cons hq).symm.trans h)⟩

theorem grantTo_journal {s : State} {g : Grantee} {n : Nat} (hop : s.port.op = none)
    (h : s.arbiterChoice = some (g, n)) : JournalMoves s (s.grantTo g) := by
  have hrequests := arbiterChoice_requests h
  cases g with
  | host =>
    obtain ⟨r, rest, hq, hready⟩ := head_of_condition hrequests
    rw [grantTo_host hq]
    exact grantHost_journal hop hready
  | sweep =>
    unfold State.grantTo
    simp only
    split
    · exact .refl
    · exact grantSweep_journal hop hrequests.2
  | apply =>
    unfold State.grantTo
    simp only
    split
    · exact .refl
    · exact grantApply_journal hop

theorem grantNow_journal (s : State) : JournalMoves s s.grantNow := by
  unfold State.grantNow
  refine journalMoves_ite (fun _ => .refl) fun hop => ?_
  split
  · exact .refl
  · rename_i g n hchoice
    exact (grantTo_journal (by simpa using hop) hchoice).trans
      ((withPassedOver_journal_same _ n).moves.trans (settle_journal _))

theorem examineNow_journal (s : State) : JournalMoves s s.examineNow :=
  journalMoves_ite_self .refl fun _ => (examine_same s).moves.trans ((drainCheck_journal _).trans (settle_journal _))

theorem examineAll_journal (n : Nat) (s : State) : JournalMoves s (State.examineAll n s) := by
  induction n generalizing s with
  | zero => exact .refl
  | succ n ih => exact journalMoves_ite_self .refl fun _ => (examineNow_journal s).trans (ih _)

theorem prompt_journal (s : State) : JournalMoves s s.prompt :=
  journalMoves_ite (fun _ => .refl) fun _ => (examineAll_journal _ s).trans (grantNow_journal _)

end Sys2Proof.Machine
end

section
/-! Every command as a chain of moves of the journal, and with that every step. -/

namespace Sys2Proof.Machine

/-! ### Completions -/

theorem answerPort_same (s : State) (tag : Option Tag) (st : HostStatus) (d : Option ReadData) :
    SameJournal s (s.answerPort tag st d) := by
  unfold State.answerPort
  split
  · exact .refl s
  · exact withHost_journal_same s _

/-- The port becomes idle, where no entry waits for the operation on it. -/
theorem idlePort_journal {s : State} (h : ∀ q, ¬ s.port.capturing q) : JournalMoves s s.idlePort :=
  (JournalMove.port _ (fun q hq => absurd hq (h q)) fun hs => absurd hs (idle_not_sweeping rfl)).moves

/-- Closing the entry of a sequence that no open entry has changes nothing (R29). -/
theorem closeEntry_none {s : State} {q : Seq} (h : (s.journal.entries.any (·.carries q)) = false) (ok : Bool)
    (tag : Option Tag) : s.closeEntry q ok tag = s := by
  have hself : (s.journal.entries.map fun e => if e.carries q then e.close ok tag else e) = s.journal.entries := by
    refine (List.map_congr_left fun e he => ?_).trans (List.map_id _)
    rw [List.any_eq_false] at h
    exact if_neg (h e he)
  unfold State.closeEntry
  rw [hself]
  rfl

theorem completeCapture_journal {s : State} {tag : Option Tag} {cls : CommitClass} {q : Seq} {poisoned : Bool}
    {c : Completion} (hq : ∀ r, s.port.capturing r → r = q) :
    JournalMoves s (s.idlePort.completeCapture tag cls q poisoned c) := by
  have hclose (ok : Bool) (tag : Option Tag) : JournalMoves s (s.idlePort.closeEntry q ok tag) :=
    (JournalMove.closed q ok tag hq).moves
  unfold State.completeCapture
  refine journalMoves_ite (fun _ => ?_) fun _ => (hclose _ _).trans (answerPort_same _ _ _ _).moves
  split
  · exact hclose _ _
  · refine journalMoves_ite (fun _ => (hclose _ _).trans (withHost_journal_same _ _).moves) fun hnone => ?_
    have hidle := hclose true none
    rw [closeEntry_none (Bool.eq_false_iff.2 hnone)] at hidle
    exact hidle.trans (withHost_journal_same _ _).moves

/-- The host operation on the port completes (R49, R50). -/
theorem completeHost_journal {s : State} {o : Operation} {tag : Option Tag} {grant : HostGrant} (ho : s.port.op = some o)
    (howner : o.owner = .host tag grant) (c : Completion) :
    JournalMoves s (s.idlePort.completeHost o tag grant c) := by
  obtain ⟨line, access, owner⟩ := o
  subst howner
  cases access with
  | read =>
    have hidle := idlePort_journal (s := s) fun q => by simp [MemoryPort.capturing, ho]
    unfold State.completeHost State.completeRead
    cases c with
    | ok data poison => exact hidle.trans (answerPort_same _ _ _ _).moves
    | error => exact hidle.trans (answerPort_same _ _ _ _).moves
  | write mask data poisoned =>
    cases grant with
    | capture cls q =>
      exact completeCapture_journal fun r hr => by simpa [MemoryPort.capturing, ho, eq_comm] using hr
    | read | pass | track =>
      have hidle := idlePort_journal (s := s) fun q => by simp [MemoryPort.capturing, ho]
      exact hidle.trans (answerPort_same _ _ _ _).moves

theorem advanceSweep_same (s : State) (w : WinIdx) : SameJournal s (s.advanceSweep w) := by
  unfold State.advanceSweep
  split
  · exact .refl s
  · refine .ite (fun _ => SameJournal.trans ?_ (sweepTest_same _ w)) fun _ => withSweep_journal_same s _
    exact ⟨rfl, rfl, rfl, rfl⟩

/-- The sweep read on the port completes: its entry joins the journal, or none does (R30, R86). -/
theorem completeSweep_journal {s : State} (hp : s.port.sweeping) (x : SweepEngine) (w : WinIdx) (line : Line)
    (current : Bool) (c : Completion) :
    JournalMoves s ((s.idlePort.withSweep x).completeSweep w line current c) := by
  have hidle : JournalMoves s s.idlePort := idlePort_journal fun q hq => capturing_not_sweeping hq hp
  have hfault : SameJournal s.idlePort
      (if completionOk c then s.idlePort.withSweep x
        else (s.idlePort.withSweep x).offerFault .memoryError (some w) (some line) none none) :=
    .ite (fun _ => withSweep_journal_same _ x) fun _ => ⟨rfl, rfl, rfl, rfl⟩
  unfold State.completeSweep
  refine journalMoves_ite (fun _ => ?_) fun _ => hidle.trans hfault.moves
  generalize (if completionOk c then s.idlePort.withSweep x
    else (s.idlePort.withSweep x).offerFault .memoryError (some w) (some line) none none) = t at hfault ⊢
  have hswept : JournalMove s (s.idlePort.withJournal (s.journal.append ((s.idlePort.withSweep x).sweepEntry w line c))) :=
    .swept _ hp rfl rfl (show fullMask ≠ 0 by decide) rfl
  have hjoined : SameJournal (s.idlePort.withJournal (s.journal.append ((s.idlePort.withSweep x).sweepEntry w line c)))
      (t.withJournal (t.journal.append ((s.idlePort.withSweep x).sweepEntry w line c))) := by
    refine ⟨hfault.op, ?_, congrArg (· + 1) hfault.nextSeq, hfault.pending⟩
    simp only [State.withJournal_journal, Journal.append, hfault.entries, hfault.nextSeq]
    rfl
  exact hswept.moves.trans (hjoined.moves.trans
    (journalMoves_ite_self .refl fun _ => (advanceSweep_same _ w).moves))

/-- The operation on the port completes: the port becomes idle and the owner acts (R65). -/
theorem completeFor_journal (s : State) (o : Operation) (c : Completion) (ho : s.port.op = some o) :
    JournalMoves s (s.idlePort.completeFor o c) := by
  cases howner : o.owner with
  | host tag grant =>
    unfold State.completeFor
    rw [howner]
    exact completeHost_journal ho howner c
  | sweep w discarded =>
    have hp : s.port.sweeping := by
      obtain ⟨line, access, owner⟩ := o
      subst howner
      simp [MemoryPort.sweeping, ho]
    have hidle : JournalMoves s s.idlePort := idlePort_journal fun q hq => capturing_not_sweeping hq hp
    unfold State.completeFor
    rw [howner]
    exact journalMoves_ite (fun _ => hidle.trans (withSweep_journal_same _ _).moves)
      fun _ => completeSweep_journal hp _ w o.line _ c
  | apply e window discarded =>
    have hidle := idlePort_journal (s := s) fun q hq => by
      obtain ⟨line, access, owner⟩ := o
      subst howner
      cases access <;> simp [MemoryPort.capturing, ho] at hq
    unfold State.completeFor
    rw [howner]
    exact journalMoves_ite (fun _ => hidle) fun _ =>
      hidle.trans (((finishEntry_same _ e _).trans (examine_same _)).moves.trans (drainCheck_journal _))

/-! ### Timers -/

theorem overflowSuspend_same (s : State) (w : WinIdx) (line : Line) : SameJournal s (s.overflowSuspend w line) := by
  rw [overflowSuspend_eq]
  exact (suspendWhere_same s _ _).trans (withService_journal_same _ _)

theorem expireStall_journal (s : State) : JournalMoves s s.expireStall := by
  refine journalMoves_ite_self .refl fun _ => ?_
  split
  · exact .refl
  · split
    · exact (overflowSuspend_same s _ _).moves.trans (settle_journal _)
    all_goals exact .refl

theorem releaseTag_journal (s : State) (q : Seq) (tag : Tag) : JournalMove s (s.releaseTag q tag) := by
  refine .mapped _ fun e => ?_
  split
  · exact ⟨⟨rfl, rfl, rfl, List.length_filter_le _ _, id, .inl⟩, rfl⟩
  · exact ⟨.refl e, rfl⟩

theorem expireHold_journal (s : State) (tag : Tag) : JournalMoves s (s.expireHold tag) := by
  refine journalMoves_ite_self .refl fun _ => ?_
  split
  · exact .refl
  · rename_i r _
    have hanswer : SameJournal s (s.answerHeld tag .unmirrored) := ⟨rfl, rfl, rfl, rfl⟩
    exact hanswer.moves.trans ((releaseTag_journal _ r.seq tag).moves.trans
      ((withService_journal_same _ _).moves.trans (settle_journal _)))

theorem askRewind_journal (s : State) (k : Nat) : JournalMoves s (s.askRewind k) :=
  journalMoves_ite
    (fun _ => (JournalMove.rewound k).moves.trans
      ((withSeq_journal_same _ _).trans (withService_journal_same _ _)).moves)
    fun _ => (offerFault_same s _ _ _ _ _).moves.trans (linkLoss_journal _ _)

theorem expireTimer_journal (s : State) (n : TimerName) : JournalMoves s (s.expireTimer n) := by
  cases n with
  | ack => exact journalMoves_ite_self .refl fun _ => (askRewind_journal s 0).trans (settle_journal _)
  | probe => exact journalMoves_ite_self .refl fun _ => (chooseFrame_journal s true).trans (settle_journal _)
  | quiet => exact journalMoves_ite_self .refl fun _ => (linkLoss_journal s .link).trans (settle_journal _)
  | stall => exact expireStall_journal s
  | held => exact foldl_journal _ expireHold_journal _ s

theorem expireDueTimers_journal (s : State) : JournalMoves s s.expireDueTimers :=
  journalMoves_ite (fun _ => foldl_journal _ expireTimer_journal _ s) fun _ =>
    (foldl_journal _ expireTimer_journal _ s).trans (withFreeCount_journal_same _ _).moves

theorem repeatHello_journal (s : State) : JournalMoves s s.repeatHello :=
  journalMoves_ite_self .refl fun _ => (withLink_journal_same s _).moves.trans (settle_journal _)

/-! ### Frames received -/

theorem noteReceipt_same (s : State) : SameJournal s s.noteReceipt :=
  .ite (fun _ => withLink_journal_same s _) fun _ => .refl s

/-- A frame is noted and, where it counts, acted on and settled (R100). -/
theorem receive_journal (s : State) {c : Prop} [Decidable c] {t : State} (ht : JournalMoves s.noteReceipt t) :
    JournalMoves s (if s.receives then if c then t.settle else s.noteReceipt else s) :=
  journalMoves_ite_self .refl fun _ =>
    journalMoves_ite_self (noteReceipt_same s).moves fun _ => ht.trans (settle_journal _)

theorem bogus_journal (s : State) (q : Seq) : JournalMoves s (s.bogus q) :=
  (offerFault_same s _ _ _ _ _).moves.trans (linkLoss_journal _ _)

theorem acknowledgeEntry_same (s : State) (e : JournalEntry) : SameJournal s (s.acknowledgeEntry e) := by
  have hmark (u : State) (h : SameJournal s u) (x : Sequencer) :
      SameJournal s (if e.kind = .mark then (u.withSeq x).raise .markConfirmed else u) :=
    .ite (fun _ => h.trans ⟨rfl, rfl, rfl, rfl⟩) fun _ => h
  have hsweep (u : State) (h : SameJournal s u) : SameJournal s (if e.kind = .sweep then u.sweepTest e.window else u) :=
    .ite (fun _ => h.trans (sweepTest_same u _)) fun _ => h
  exact (hsweep _ (hmark _ (answerTags_same s _ _) _)).trans (withService_journal_same _ _)

theorem acknowledge_journal (n : Nat) (s : State) : JournalMoves s (State.acknowledge n s) := by
  induction n generalizing s with
  | zero => exact .refl
  | succ n ih =>
    unfold State.acknowledge
    split
    · exact .refl
    · rename_i e rest he
      exact (JournalMove.left he).moves.trans ((acknowledgeEntry_same _ e).moves.trans (ih _))

theorem reconcile_same (s : State) (f q : Seq) : SameJournal s (s.reconcile f q) :=
  .ite (fun _ => (suspendWhere_same s Window.enabled .missingReport).trans
    ((markAll_same _).trans ((withSeq_journal_same _ _).trans
      ((offerFault_same _ _ _ _ _ _).trans (withService_journal_same _ _))))) fun _ => .refl s

theorem takeAck_journal (s : State) (q f : Seq) : JournalMoves s (s.takeAck q f) := by
  unfold State.takeAck
  split
  · exact (reconcile_same s f q).moves
  · rename_i k _
    exact (acknowledge_journal (k + 1) s).trans ((withSeq_journal_same _ _).trans (reconcile_same _ f q)).moves
  all_goals exact bogus_journal s q

theorem takeNak_journal (s : State) (q : Seq) : JournalMoves s (s.takeNak q) := by
  unfold State.takeNak
  split
  · exact askRewind_journal s _
  · exact .refl
  all_goals exact bogus_journal s q

theorem markReported_journal (s : State) (q : Seq) : JournalMove s (s.markReported q) := by
  refine .mapped _ fun e => ?_
  split
  · exact ⟨⟨rfl, rfl, rfl, le_rfl, id, .inl⟩, rfl⟩
  · exact ⟨.refl e, rfl⟩

theorem takeReport_journal (s : State) (r : Report) : JournalMoves s (s.takeReport r) := by
  have hwindow (u : State) (a : Option (WinIdx × Nat)) : SameJournal u (u.reportWindow a) := by
    unfold State.reportWindow
    split
    · exact .refl u
    · exact (suspendWindow_same u _ _).trans (markDirty_same _ _ _)
  exact (markReported_journal s r.seq).moves.trans
    ((hwindow _ _).trans ((withSeq_journal_same _ _).trans (withService_journal_same _ _))).moves

theorem upHello_journal (s : State) (h : Hello) : JournalMoves s (s.upHello h) :=
  ((linkLoss_journal s .link).trans (enterHail_journal_same _).moves).trans
    (journalMoves_ite_self .refl fun _ => (hailHello_same _ h).moves)

theorem signalLost_journal (s : State) : JournalMoves s s.signalLost := by
  unfold State.signalLost
  split
  · exact .refl
  · exact SameJournal.moves ⟨rfl, rfl, rfl, rfl⟩
  · exact linkLoss_journal s .link
  · exact .refl

/-! ### The host port -/

theorem dropTag_capturing (o : Option Operation) (n : Nat) (q : Seq)
    (h : MemoryPort.capturing { op := o, passedOver := n } q) :
    MemoryPort.capturing { op := o.map Operation.dropTag, passedOver := n } q := by
  rcases o with _ | ⟨line, access, owner⟩
  · exact h
  · cases owner with
    | host tag grant => cases access <;> cases grant <;> exact h
    | sweep w d => exact h
    | apply e w d => exact h

/-- A host port reset clears the held tags and drops the tag on the port, which goes on (R40, R61). -/
theorem hostPortReset_journal (s : State) : JournalMoves s s.hostPortReset := by
  have htags : JournalMove s (s.withEntries (s.journal.entries.map fun e => { e with heldTags := [] })) :=
    .mapped _ fun e => ⟨⟨rfl, rfl, rfl, Nat.zero_le _, id, .inl⟩, rfl⟩
  have hport : JournalMove (s.withEntries (s.journal.entries.map fun e => { e with heldTags := [] }))
      ((s.withEntries (s.journal.entries.map fun e => { e with heldTags := [] })).withPort
        { op := s.port.op.map Operation.dropTag, passedOver := s.port.passedOver }) :=
    .port _ (fun q => dropTag_capturing s.port.op s.port.passedOver q)
      fun hs => .inl ((dropTag_sweeping s.port.op s.port.passedOver).1 hs)
  exact htags.moves.trans (hport.moves.trans (SameJournal.moves ⟨rfl, rfl, rfl, rfl⟩))

/-! ### The service port -/

/-- An effect, settled and then answered DONE. -/
theorem settleDone_journal {s t : State} (echo code : Byte) (l : List Byte) (h : JournalMoves s t) :
    JournalMoves s (t.settle.replyDone echo code l) :=
  h.trans ((settle_journal t).trans (replyDone_journal _ _ _ _))

theorem setWindow_journal (s : State) (echo : Byte) (a : SetWindowArgs) : JournalMoves s (s.setWindow echo a) := by
  unfold State.setWindow
  split
  · exact refuse_journal s _ _ _
  · refine journalMoves_ite (fun _ => reply_journal s _ _ _ _ _) fun _ => ?_
    split
    · exact journalMoves_ite (fun _ => refuse_journal s _ _ _) fun _ =>
        journalMoves_ite (fun _ => refuse_journal s _ _ _) fun _ =>
          journalMoves_ite (fun _ => refuse_journal s _ _ _) fun _ =>
            (withWindows_journal_same s _).moves.trans (replyDone_journal _ _ _ _)
    · exact refuse_journal s _ _ _
    · exact refuse_journal s _ _ _

theorem tryEnable_journal (s : State) (echo : Byte) (n : Nat) : JournalMoves s (s.tryEnable echo n) := by
  have henable (w : WinIdx) : SameJournal s (s.enableWindow w) :=
    .ite (fun _ => (withWindows_journal_same s _).trans (markWindow_same _ w)) fun _ => withWindows_journal_same s _
  unfold State.tryEnable
  split
  · exact refuse_journal s _ _ _
  · exact journalMoves_ite (fun _ => replyDone_journal s _ _ _) fun _ =>
      journalMoves_ite (fun _ => refuse_journal s _ _ _) fun _ =>
        journalMoves_ite (fun _ => refuse_journal s _ _ _) fun _ =>
          journalMoves_ite (fun _ => refuse_journal s _ _ _) fun _ => settleDone_journal _ _ _ (henable _).moves

theorem disableWindow_same (s : State) (w : WinIdx) : SameJournal s (s.disableWindow w) := by
  rw [disableWindow_eq]; exact ⟨rfl, rfl, rfl, rfl⟩

theorem tryStartSweep_journal (s : State) (echo : Byte) (n scope : Nat) :
    JournalMoves s (s.tryStartSweep echo n scope) := by
  have hstart (w : WinIdx) (full : Bool) : SameJournal s (s.startSweep w full) := by
    have hmark : SameJournal s (if full then s.markWindow w else s) := .ite (fun _ => markWindow_same s w) fun _ => .refl s
    exact hmark.trans ((withWindows_journal_same _ _).trans (sweepTest_same _ w))
  unfold State.tryStartSweep
  split
  · refine journalMoves_ite (fun _ => refuse_journal s _ _ _) fun _ =>
      journalMoves_ite (fun _ => refuse_journal s _ _ _) fun _ => ?_
    split
    · exact refuse_journal s _ _ _
    · exact replyDone_journal s _ _ _
    · exact replyDone_journal s _ _ _
    · exact settleDone_journal _ _ _ (hstart _ _).moves
  · exact refuse_journal s _ _ _
  · exact refuse_journal s _ _ _

theorem tryPause_journal (s : State) (echo : Byte) (n : Nat) : JournalMoves s (s.tryPause echo n) := by
  unfold State.tryPause
  split
  · exact refuse_journal s _ _ _
  · split
    · exact refuse_journal s _ _ _
    · exact replyDone_journal s _ _ _
    · exact settleDone_journal _ _ _ (suspendWindow_same s _ _).moves
    · exact settleDone_journal _ _ _ (suspendWindow_same s _ _).moves

theorem assumeSource_journal (s : State) (echo : Byte) : JournalMoves s (s.assumeSource echo) := by
  refine journalMoves_ite (fun _ => reply_journal s _ _ _ _ _) fun _ => ?_
  split
  · exact (changeRole_journal s .source).trans (replyDone_journal _ _ _ _)
  · exact replyDone_journal s _ _ _
  · exact (changeRole_journal s .draining).trans ((drainCheck_journal _).trans (reply_journal _ _ _ _ _ _))
  · exact reply_journal s _ _ _ _ _

theorem assumeSink_journal (s : State) (echo : Byte) (force : Bool) : JournalMoves s (s.assumeSink echo force) := by
  have hsink (u : State) : JournalMoves u ((u.changeRole .sink).replyDone echo 9 []) :=
    (changeRole_journal u .sink).trans (replyDone_journal _ _ _ _)
  refine journalMoves_ite (fun _ => reply_journal s _ _ _ _ _) fun _ => ?_
  split
  · exact hsink s
  · exact journalMoves_ite (fun _ => hsink s) fun _ =>
      journalMoves_ite (fun _ => (discard_journal s).trans (hsink _)) fun _ => refuse_journal s _ _ _
  · exact replyDone_journal s _ _ _
  · exact reply_journal s _ _ _ _ _

theorem setTimers_journal (s : State) (echo : Byte) (t : Timers) : JournalMoves s (s.setTimers echo t) :=
  journalMoves_ite (fun _ => reply_journal s _ _ _ _ _) fun _ =>
    journalMoves_ite (fun _ => reply_journal s _ _ _ _ _) fun _ =>
      journalMoves_ite (fun _ => replyDone_journal s _ _ _) fun _ =>
        (withService_journal_same s _).moves.trans ((expireDueTimers_journal _).trans (replyDone_journal _ _ _ _))

theorem setOverride_journal (s : State) (echo : Byte) (v : Option Bool) : JournalMoves s (s.setOverride echo v) := by
  unfold State.setOverride
  split
  · exact refuse_journal s _ _ _
  · exact journalMoves_ite (fun _ => replyDone_journal s _ _ _) fun _ =>
      settleDone_journal _ _ _ (withService_journal_same s _).moves

theorem readFault_journal (s : State) (echo : Byte) : JournalMoves s (s.readFault echo) := by
  unfold State.readFault
  split
  · exact reply_journal s _ _ _ _ _
  · exact (withService_journal_same s _).moves.trans (replyDone_journal _ _ _ _)

theorem linkTest_journal (s : State) (echo : Byte) (n : Nat) : JournalMoves s (s.linkTest echo n) :=
  journalMoves_ite (fun _ => refuse_journal s _ _ _) fun _ =>
    journalMoves_ite (fun _ => refuse_journal s _ _ _) fun _ =>
      journalMoves_ite (fun _ => reply_journal s _ _ _ _ _) fun _ =>
        (withLink_journal_same s _).moves.trans (reply_journal _ _ _ _ _ _)

/-! ### Every command and every step -/

/-- The command answers a next state, which a chain of moves of the journal leads to. -/
def JournalOutcome (s : State) (o : Host.Outcome State Fault Refusal) : Prop := ∃ t, o = .next t ∧ JournalMoves s t

theorem JournalOutcome.of_moves {s t : State} (h : JournalMoves s t) : JournalOutcome s (.next t) := ⟨t, rfl, h⟩

theorem take_journal (s : State) {f : State → State} (hf : ∀ u, JournalMoves u (f u)) :
    JournalOutcome s (.next (s.take f)) :=
  .of_moves (journalMoves_ite (fun _ => .refl) fun _ => (prompt_journal s).trans (hf _))

theorem takeCommand_journal (s : State) (echo code : Byte) (args : List Byte) {f : State → State}
    (hf : ∀ u, JournalMoves u (f u)) : JournalOutcome s (.next (s.takeCommand echo code args f)) :=
  take_journal s fun u => journalMoves_ite (fun _ => hf u) fun _ => refuse_journal u _ _ _

theorem coldReset_journal (s : State) (edge : ColdPinEdge) : JournalOutcome s (execColdReset edge s) := by
  have hcold (u : State) (pin : Bool) : JournalMove u (u.cold pin) := .emptied rfl rfl
  cases edge with
  | asserted => exact .of_moves ((prompt_journal s).trans (hcold _ true).moves)
  | released signal =>
    exact .of_moves (journalMoves_ite (fun _ => (hcold s false).moves.trans (withLink_journal_same _ _).moves)
      fun _ => prompt_journal s)

theorem hostRequest_journal (s : State) (r : HostRequest) : JournalOutcome s (execHostRequest r s) := by
  have haccept (u : State) (q : QueuedRequest) : SameJournal u (u.acceptRequest q) := by
    have hfault : SameJournal u
        (if q.isPoisoned then u.offerFault .poisonWrite (u.owner q.line.granule) (some q.line) none none else u) :=
      .ite (fun _ => offerFault_same u _ _ _ _ _) fun _ => .refl u
    exact hfault.trans (withHost_journal_same _ _)
  exact take_journal s fun u => journalMoves_ite (fun _ => .refl) fun _ =>
    journalMoves_ite (fun _ => (offerFault_same u _ _ _ _ _).moves)
      fun _ => (haccept u _).moves.trans (settle_journal _)

theorem receiveHello_journal (s : State) (h : Hello) : JournalOutcome s (execReceiveHello h s) := by
  refine take_journal s fun u => journalMoves_ite_self .refl fun _ => ?_
  split
  · exact .refl
  · exact (hailHello_same u h).moves.trans (settle_journal _)
  · exact journalMoves_ite (fun _ => (noteReceipt_same u).moves)
      fun _ => (noteReceipt_same u).moves.trans ((upHello_journal _ h).trans (settle_journal _))
  · exact .refl

theorem laneSignalChange_journal (s : State) (signal : LaneSignal) :
    JournalOutcome s (execLaneSignalChange signal s) := by
  refine take_journal s fun u => journalMoves_ite (fun _ => .refl) fun _ => ?_
  have hsignal := (withLink_journal_same u { u.link with signal := signal }).moves
  cases signal with
  | absent => exact hsignal.trans ((signalLost_journal _).trans (settle_journal _))
  | present => exact hsignal.trans (settle_journal _)

theorem memoryCompletion_journal (s : State) (c : Completion) : JournalOutcome s (execMemoryCompletion c s) := by
  refine take_journal s fun u => ?_
  split
  · exact .refl
  · exact (completeFor_journal u _ c ‹_›).trans (settle_journal _)

theorem frameEnd_journal (s : State) : JournalOutcome s (execFrameEnd s) := by
  refine take_journal s fun u => ?_
  split
  · exact .refl
  · exact (withLink_journal_same u _).moves.trans (settleWith_journal _ _)

theorem testFrameReturn_journal (s : State) (bytes : List Byte) : JournalOutcome s (execTestFrameReturn bytes s) := by
  refine take_journal s fun u => ?_
  split
  · exact .refl
  · exact journalMoves_ite (fun _ => SameJournal.moves ⟨rfl, rfl, rfl, rfl⟩) fun _ => (withLink_journal_same u _).moves

theorem damagedFrame_journal (s : State) (bytes : List Byte) : JournalOutcome s (execDamagedFrame bytes s) :=
  take_journal s fun u => journalMoves_ite_self .refl fun _ =>
    journalMoves_ite_self (withService_journal_same u _).moves
      fun _ => (withRx_journal_same _ _).moves.trans (settle_journal _)

/-- Every command answers a next state, and is a chain of moves of the journal. -/
theorem exec_journal (i : Instr) (s : State) : JournalOutcome s (exec i s) := by
  cases i with
  | hostRequest r => exact hostRequest_journal s r
  | hostPortReset =>
    exact .of_moves (journalMoves_ite (fun _ => (withHost_journal_same s _).moves) fun _ =>
      journalMoves_ite (fun _ => prompt_journal s) fun _ => (prompt_journal s).trans (hostPortReset_journal _))
  | hostPortResetRelease => exact .of_moves ((prompt_journal s).trans (withHost_journal_same _ _).moves)
  | coldReset edge => exact coldReset_journal s edge
  | portGrant => exact .of_moves (prompt_journal s)
  | memoryCompletion c => exact memoryCompletion_journal s c
  | applyHeadExamine => exact .of_moves (journalMoves_ite (fun _ => .refl) fun _ => examineNow_journal s)
  | drainEnd => exact take_journal s drainCheck_journal
  | stallExpiry => exact take_journal s expireStall_journal
  | holdExpiry tag => exact take_journal s fun u => expireHold_journal u tag
  | ackTimerExpiry => exact take_journal s fun u => expireTimer_journal u .ack
  | probeIdleExpiry => exact take_journal s fun u => expireTimer_journal u .probe
  | silenceExpiry => exact take_journal s fun u => expireTimer_journal u .quiet
  | helloRepeat => exact take_journal s repeatHello_journal
  | laneSignalChange signal => exact laneSignalChange_journal s signal
  | damagedFrame bytes => exact damagedFrame_journal s bytes
  | receiveHello h => exact receiveHello_journal s h
  | receiveDataFrame f => exact take_journal s fun u => receive_journal u (withRx_journal_same _ _).moves
  | receiveProbe epoch => exact take_journal s fun u => receive_journal u (withRx_journal_same _ _).moves
  | receiveAck epoch q f => exact take_journal s fun u => receive_journal u (takeAck_journal _ q f)
  | receiveNak epoch q reason => exact take_journal s fun u => receive_journal u (takeNak_journal _ q)
  | receiveReport r => exact take_journal s fun u => receive_journal u (takeReport_journal _ r)
  | receiveTestFrame pattern payload =>
    exact take_journal s fun u => journalMoves_ite (fun _ => (noteReceipt_same u).moves) fun _ => .refl
  | frameEnd => exact frameEnd_journal s
  | testFrameReturn bytes => exact testFrameReturn_journal s bytes
  | badMessage bytes =>
    exact take_journal s fun u => journalMoves_ite (fun _ => reply_journal u _ _ _ _ _) fun _ =>
      reply_journal u _ _ _ _ _
  | unknownCommand echo code args => exact take_journal s fun u => reply_journal u _ _ _ _ _
  | getStatus echo args => exact takeCommand_journal s _ _ _ fun u => replyDone_journal u _ _ _
  | setWindow echo args => exact takeCommand_journal s _ _ _ fun u => setWindow_journal u _ _
  | getWindow echo args =>
    refine takeCommand_journal s _ _ _ fun u => ?_
    split
    · exact refuse_journal u _ _ _
    · exact replyDone_journal u _ _ _
  | enableWindow echo args => exact takeCommand_journal s _ _ _ fun u => tryEnable_journal u _ _
  | disableWindow echo args =>
    refine takeCommand_journal s _ _ _ fun u => ?_
    split
    · exact refuse_journal u _ _ _
    · exact journalMoves_ite (fun _ => settleDone_journal _ _ _ (disableWindow_same u _).moves)
        fun _ => replyDone_journal u _ _ _
  | startSweep echo args => exact takeCommand_journal s _ _ _ fun u => tryStartSweep_journal u _ _ _
  | pauseWindow echo args => exact takeCommand_journal s _ _ _ fun u => tryPause_journal u _ _
  | assumeSource echo args => exact takeCommand_journal s _ _ _ fun u => assumeSource_journal u _
  | assumeSink echo args =>
    refine takeCommand_journal s _ _ _ fun u => ?_
    split
    · exact refuse_journal u _ _ _
    · exact assumeSink_journal u _ _
  | isolate echo args =>
    exact takeCommand_journal s _ _ _ fun u => journalMoves_ite (fun _ => replyDone_journal u _ _ _)
      fun _ => (changeRole_journal u .isolated).trans (replyDone_journal _ _ _ _)
  | setTimers echo args => exact takeCommand_journal s _ _ _ fun u => setTimers_journal u _ _
  | setMask echo args =>
    exact takeCommand_journal s _ _ _ fun u => (withService_journal_same u _).moves.trans (replyDone_journal _ _ _ _)
  | readEvents echo args =>
    exact takeCommand_journal s _ _ _ fun u => (withService_journal_same u _).moves.trans (replyDone_journal _ _ _ _)
  | readFault echo args => exact takeCommand_journal s _ _ _ fun u => readFault_journal u _
  | getMarks echo args => exact takeCommand_journal s _ _ _ fun u => replyDone_journal u _ _ _
  | setOverride echo args => exact takeCommand_journal s _ _ _ fun u => setOverride_journal u _ _
  | getStats echo args => exact takeCommand_journal s _ _ _ fun u => replyDone_journal u _ _ _
  | linkTest echo args => exact takeCommand_journal s _ _ _ fun u => linkTest_journal u _ _
  | restart echo args =>
    exact takeCommand_journal s _ _ _ fun u => (warmReset_journal u).trans (replyDone_journal _ _ _ _)

/-- Settles O53: every command is a chain of moves, each of which keeps the journal in order. -/
theorem stepsKeepTheJournalInOrder : Obligations.StepsKeepTheJournalInOrder := by
  intro s t h hstep
  have hexec (i : Instr) (u : State) (hu : JournalInv u) (hstep : exec i u = .next t) : JournalInv t := by
    obtain ⟨t', ht', hmoves⟩ := exec_journal i u
    cases ht'.symm.trans hstep
    exact journalMoves_keep hmoves hu
  unfold step at hstep
  split at hstep
  · rename_i c rest _
    exact hexec c (s.withPending rest) h hstep
  · split at hstep
    · refine hexec _ _ ?_ hstep
      unfold State.chosen
      split <;> exact h
    · injection hstep with hstep
      subst hstep
      unfold State.tick State.unlessHeld
      split <;> exact h

end Sys2Proof.Machine
end

section
/-! The steps that the unit takes of itself: which are due, and that every step answers. -/

namespace Sys2Proof.Machine

/-! ### Which steps are due -/

theorem inSession_iff (s : State) : s.inSession ↔ (s.role == .source && s.link.state == .up) = true := by
  simp [State.inSession]

theorem ackDue_iff (s : State) :
    s.ackDue = true ↔
      s.inSession ∧ ∃ a, s.seq.ackStart = some a ∧ s.service.timers.tAck ≤ (s.time - a).toNat := by
  unfold State.ackDue
  rw [Bool.and_eq_true, ← inSession_iff, reached_iff]

theorem probeDue_iff (s : State) :
    s.probeDue = true ↔
      s.inSession ∧ s.link.lane = none ∧
        (∀ e, s.journal.entries.find? (fun x => !x.sent) = some e →
          e.isOpen = true ∨ 32 ≤ s.journal.entries.countP (·.sent)) ∧
        ∃ a, s.seq.lastSend = some a ∧ s.service.timers.tProbe ≤ (s.time - a).toNat := by
  unfold State.probeDue
  rw [Bool.and_eq_true, Bool.and_eq_true, Bool.and_eq_true, ← inSession_iff, reached_iff, Option.isNone_iff_eq_none,
    Option.isNone_iff_eq_none, sendable_none_iff, and_assoc, and_assoc]

theorem holdDue_iff (s : State) (tag : Tag) :
    s.holdDue tag = true ↔
      ∃ r ∈ s.host.held, r.tag = tag ∧ s.service.timers.tHeld ≤ (s.time - r.start).toNat := by
  simp only [State.holdDue, List.any_eq_true, Bool.and_eq_true, beq_iff_eq, decide_eq_true_eq]
  rfl

theorem helloRepeatDue_iff (s : State) :
    s.helloRepeatDue = true ↔
      s.link.state = .hail ∧ s.link.helloDue = false ∧
        ∃ a, s.link.lastHello = some a ∧ 100 ≤ (s.time - a).toNat := by
  simp only [State.helloRepeatDue, Bool.and_eq_true, beq_iff_eq, Bool.not_eq_true', reached_iff, and_assoc]
  rfl

theorem heldDue_iff (s : State) :
    s.timerDue .held = true ↔ ∃ r ∈ s.host.held, s.service.timers.tHeld ≤ (s.time - r.start).toNat := by
  have hany : s.timerDue .held = true ↔ ∃ tag, s.holdDue tag = true := by
    simp [State.timerDue, allTags]
  simp only [hany, holdDue_iff]
  constructor
  · rintro ⟨tag, r, hr, -, hage⟩
    exact ⟨r, hr, hage⟩
  · rintro ⟨r, hr, hage⟩
    exact ⟨r.tag, r, hr, rfl, hage⟩

theorem mem_ite_singleton {c : Prop} [Decidable c] (x a : Instr) : x ∈ (if c then [a] else []) ↔ x = a ∧ c := by
  split <;> simp [*]

/-- The steps due other than the examination and the grant (R33, R54, R103, R109, R119, R120, R161). -/
theorem mem_otherSteps (s : State) (c : Instr) :
    c ∈ s.otherSteps ↔
      (c = .drainEnd ∧ s.role = .draining ∧ s.rx.applyQueue = []) ∨ (c = .stallExpiry ∧ s.stallDue = true) ∨
        (∃ r ∈ s.host.held, c = .holdExpiry r.tag ∧ s.service.timers.tHeld ≤ (s.time - r.start).toNat) ∨
        (c = .ackTimerExpiry ∧ s.ackDue = true) ∨ (c = .probeIdleExpiry ∧ s.probeDue = true) ∨
        (c = .silenceExpiry ∧ s.silenceDue = true) ∨ (c = .helloRepeat ∧ s.helloRepeatDue = true) := by
  have htags (tag : Tag) : tag ∈ allTags := List.mem_finRange tag
  have hheld : c ∈ (allTags.filter s.holdDue).map Instr.holdExpiry ↔
      ∃ r ∈ s.host.held, c = .holdExpiry r.tag ∧ s.service.timers.tHeld ≤ (s.time - r.start).toNat := by
    simp only [List.mem_map, List.mem_filter, holdDue_iff, htags, true_and]
    constructor
    · rintro ⟨tag, ⟨r, hr, rfl, hage⟩, rfl⟩
      exact ⟨r, hr, rfl, hage⟩
    · rintro ⟨r, hr, rfl, hage⟩
      exact ⟨r.tag, ⟨r, hr, rfl, hage⟩, rfl⟩
  unfold State.otherSteps
  simp only [List.mem_append, mem_ite_singleton, hheld, or_assoc]

/-- Every step of the unit itself but the examination and the grant. -/
def everyOtherStep : List Instr :=
  [Instr.drainEnd] ++ [Instr.stallExpiry] ++ allTags.map Instr.holdExpiry ++ [Instr.ackTimerExpiry] ++
    [Instr.probeIdleExpiry] ++ [Instr.silenceExpiry] ++ [Instr.helloRepeat]

theorem everyOtherStep_nodup : everyOtherStep.Nodup := by
  have htags : (allTags.map Instr.holdExpiry).Nodup := (List.nodup_finRange 16).map fun _ _ => Instr.holdExpiry.inj
  simp [everyOtherStep, List.nodup_append, htags]

theorem otherSteps_sublist (s : State) : s.otherSteps.Sublist everyOtherStep := by
  have hone (c : Prop) [Decidable c] (a : Instr) : (if c then [a] else []).Sublist [a] := by
    split
    · exact .refl _
    · exact List.nil_sublist _
  have hheld : ((allTags.filter s.holdDue).map Instr.holdExpiry).Sublist (allTags.map .holdExpiry) :=
    List.filter_sublist.map _
  exact ((((((hone _ _).append (hone _ _)).append hheld).append (hone _ _)).append (hone _ _)).append
    (hone _ _)).append (hone _ _)

theorem urgentSteps_examine {s : State} (h : s.examineDue = true) : s.urgentSteps = [.applyHeadExamine] := if_pos h

theorem urgentSteps_grant {s : State} (h : s.examineDue = false) (hg : s.grantDue = true) :
    s.urgentSteps = [.portGrant] := by
  unfold State.urgentSteps
  rw [h, hg]
  rfl

theorem urgentSteps_none {s : State} (h : s.examineDue = false) (hg : s.grantDue = false) : s.urgentSteps = [] := by
  unfold State.urgentSteps
  rw [h, hg]
  rfl

theorem dueSteps_urgent {s : State} {c : Instr} (hp : s.coldPin = false) (h : s.urgentSteps = [c]) :
    s.dueSteps = [c] := by
  unfold State.dueSteps State.ownSteps
  rw [hp, h]
  rfl

theorem dueSteps_other {s : State} (hp : s.coldPin = false) (h : s.urgentSteps = []) : s.dueSteps = s.otherSteps := by
  unfold State.dueSteps State.ownSteps
  rw [hp, h]
  rfl

theorem dueSteps_held {s : State} (hp : s.coldPin = true) : s.dueSteps = [] := if_pos hp

theorem dueSteps_nodup (s : State) : s.dueSteps.Nodup := by
  cases hp : s.coldPin with
  | true => rw [dueSteps_held hp]; exact .nil
  | false =>
    cases he : s.examineDue with
    | true => rw [dueSteps_urgent hp (urgentSteps_examine he)]; exact List.nodup_singleton _
    | false =>
      cases hg : s.grantDue with
      | true => rw [dueSteps_urgent hp (urgentSteps_grant he hg)]; exact List.nodup_singleton _
      | false => rw [dueSteps_other hp (urgentSteps_none he hg)]; exact everyOtherStep_nodup.sublist (otherSteps_sublist s)

/-! ### Steps on an empty queue -/

theorem step_idle {s : State} (hq : s.pending = []) (hd : s.dueSteps = []) : step s = .next s.tick := by
  unfold step State.nextDue
  rw [hq, hd]
  rfl

/-- The only step due is taken. -/
theorem step_single {s : State} {c : Instr} (hq : s.pending = []) (hd : s.dueSteps = [c]) : step s = exec c s := by
  have hchosen : s.chosen = s := if_pos (by rw [hd]; rfl)
  unfold step State.nextDue
  rw [hq, hd, hchosen]
  rfl

/-- Of two or more one is taken, and the open choice is counted (log 3). -/
theorem step_chosen {s : State} (hq : s.pending = []) (hd : 2 ≤ s.dueSteps.length) :
    ∃ c ∈ s.dueSteps, step s = exec c (s.withFreeCount (s.freeCount + 1)) := by
  have hne : s.dueSteps ≠ [] := List.ne_nil_of_length_pos (by omega)
  obtain ⟨c, hc⟩ := Option.isSome_iff_exists.1 (pick_isSome (Config.freeOrder s.freeCount) s.dueSteps hne)
  have hchosen : s.chosen = s.withFreeCount (s.freeCount + 1) := if_neg (by omega)
  refine ⟨c, pick_mem _ _ _ hc, ?_⟩
  unfold step State.nextDue
  rw [hq, hc, hchosen]

theorem tick_held {s : State} (h : s.coldPin = true) : s.tick = s := unlessHeld_held _ h

theorem tick_released {s : State} (h : s.coldPin = false) : s.tick = s.withTime (s.time + 1) := unlessHeld_released _ h

/-- Every command answers a next state and leaves the queue of commands alone. -/
theorem exec_answers (c : Instr) (s : State) : ∃ t, exec c s = .next t ∧ t.pending = s.pending := by
  obtain ⟨t, ht, hmoves⟩ := exec_journal c s
  exact ⟨t, ht, journalMoves_pending hmoves⟩

theorem step_answers (s : State) : ∃ t, step s = .next t := by
  unfold step
  split
  · obtain ⟨t, ht, -⟩ := exec_answers _ _
    exact ⟨t, ht⟩
  · split
    · obtain ⟨t, ht, -⟩ := exec_answers _ _
      exact ⟨t, ht⟩
    · exact ⟨_, rfl⟩

/-- Settles O2: answers by the moves of the journal, the choice by the list of due steps, and that list by its parts. -/
theorem stepsNeverStop : Obligations.StepsNeverStop := by
  refine ⟨⟨exec_answers, step_answers⟩, fun s hq => ⟨fun hp => ?_, fun hp hd => ?_, fun c => step_single hq, fun hp => ?_,
    step_chosen hq⟩, fun s => ⟨dueSteps_nodup s, fun hp => ⟨fun he => ?_, fun he hg => ?_, fun he hg c => ?_⟩⟩⟩
  · exact ⟨dueSteps_held hp, by rw [step_idle hq (dueSteps_held hp), tick_held hp]⟩
  · rw [step_idle hq hd, tick_released hp]
  · exact ⟨fun he => step_single hq (dueSteps_urgent hp (urgentSteps_examine he)),
      fun he hg => step_single hq (dueSteps_urgent hp (urgentSteps_grant he hg))⟩
  · exact dueSteps_urgent hp (urgentSteps_examine he)
  · exact dueSteps_urgent hp (urgentSteps_grant he hg)
  · rw [dueSteps_other hp (urgentSteps_none he hg), mem_otherSteps, helloRepeatDue_iff]
    rfl

end Sys2Proof.Machine
end

section
/-! The host port reset, the expiry of a held tag, and the timers and rewinds of the sequencer. -/

namespace Sys2Proof.Machine

/-! ### The host port reset -/

/-- What was due is taken before the reset; when nothing is due, or nothing can be, the state stays. -/
theorem prompt_still {s : State} (h : s.coldPin = true ∨ Ready s) : s.prompt = s := h.elim prompt_held prompt_ready

theorem exec_hostPortReset_again {s : State} (hline : s.host.resetLine = true) (h : s.coldPin = true ∨ Ready s) :
    exec .hostPortReset s = .next s := by
  have hself : s.withHost { s.host with resetLine := true } = s := by rw [← hline]; rfl
  change execHostPortReset s = .next s
  rw [execHostPortReset, hself, prompt_still h, hline, if_pos rfl, ite_self]

theorem exec_hostPortReset_held {s : State} (hp : s.coldPin = true) :
    exec .hostPortReset s = .next (s.withHost { s.host with resetLine := true }) :=
  congrArg Host.Outcome.next (if_pos hp)

theorem exec_hostPortReset_asserted {s : State} (h : Ready s) (hline : s.host.resetLine = false) :
    exec .hostPortReset s = .next s.hostPortReset := by
  change execHostPortReset s = .next s.hostPortReset
  rw [execHostPortReset, h.1, hline, prompt_ready h]
  rfl

theorem exec_hostPortResetRelease {s : State} (h : s.coldPin = true ∨ Ready s) :
    exec .hostPortResetRelease s = .next (s.withHost { s.host with resetLine := false }) := by
  change execHostPortResetRelease s = .next (s.withHost { s.host with resetLine := false })
  rw [execHostPortResetRelease, prompt_still h]

/-- The owner without the tag of its host operation (R61). -/
theorem dropTag_eq (o : Operation) :
    o.dropTag =
      { o with
        owner :=
          match o.owner with
          | .host _ grant => .host none grant
          | .sweep w d => .sweep w d
          | .apply e w d => .apply e w d } := by
  obtain ⟨line, access, owner⟩ := o
  cases owner <;> rfl

/-- Settles O28, command by command; the reset itself drops the tag owner by owner. -/
theorem hostPortResetDropsEveryTag : Obligations.HostPortResetDropsEveryTag := by
  unfold Obligations.HostPortResetDropsEveryTag
  intro s
  refine ⟨exec_hostPortReset_again, exec_hostPortReset_held, fun h hline => ?_, exec_hostPortResetRelease⟩
  rw [exec_hostPortReset_asserted h hline, State.hostPortReset, funext dropTag_eq]
  rfl

/-! ### The expiry of a held tag -/

theorem expireHold_early {tag : Tag} {s : State}
    (h : ∀ r ∈ s.host.held, r.tag = tag → (s.time - r.start).toNat < s.service.timers.tHeld) :
    s.expireHold tag = s := by
  refine if_neg fun hdue => ?_
  obtain ⟨r, hr, htag, hage⟩ := (holdDue_iff s tag).1 hdue
  exact absurd (h r hr htag) (Nat.not_lt.2 hage)

/-- The record found for a tag is the only one of the tag. -/
theorem find?_held {tag : Tag} {s : State} {r : HeldRecord} (hr : r ∈ s.host.held) (htag : r.tag = tag)
    (honly : ∀ x ∈ s.host.held, x.tag = tag → x = r) : (s.host.held.find? fun x => x.tag == tag) = some r := by
  cases hfind : s.host.held.find? fun x => x.tag == tag with
  | none =>
    rw [List.find?_eq_none] at hfind
    exact absurd (by simpa using htag) (hfind r hr)
  | some x =>
    have hx : x.tag = tag := by simpa using List.find?_some hfind
    rw [honly x (List.mem_of_find?_eq_some hfind) hx]

theorem bne_eq_decide {α : Type} [DecidableEq α] (x a : α) : (x != a) = decide (x ≠ a) := by
  by_cases h : x = a <;> simp [h]

theorem answerHeld_eq (s : State) (tag : Tag) (status : HostStatus) :
    s.answerHeld tag status =
      s.withHost
        { s.host with
          held := s.host.held.filter fun x => x.tag ≠ tag
          tags := s.host.tags.filter fun x => x ≠ tag
          responses := s.host.responses ++ [{ tag := tag, status := status, data := none }] } := by
  unfold State.answerHeld State.answer
  simp only [bne_eq_decide]
  rfl

theorem releaseTag_eq (s : State) (q : Seq) (tag : Tag) :
    s.releaseTag q tag =
      s.withJournal
        { s.journal with
          entries :=
            s.journal.entries.map fun e =>
              if e.seq = q then { e with heldTags := e.heldTags.filter fun x => x ≠ tag } else e } := by
  unfold State.releaseTag
  simp only [bne_eq_decide]
  rfl

/-- Settles O34, by the record found for the tag, which is its only one. -/
theorem holdExpiryReleasesTheTag : Obligations.HoldExpiryReleasesTheTag := by
  unfold Obligations.HoldExpiryReleasesTheTag
  intro tag s
  refine ⟨fun h => congrArg Host.Outcome.next (take_ready _ h), expireHold_early, fun r hr htag honly hage => ?_⟩
  have hdue : s.holdDue tag = true := (holdDue_iff s tag).2 ⟨r, hr, htag, hage⟩
  rw [State.expireHold, if_pos hdue, find?_held hr htag honly, answerHeld_eq]
  simp only [releaseTag_eq, State.raise, State.count, countUp_eq]
  rfl

/-! ### The timers of the sequencer -/

theorem exec_ackTimerExpiry {s : State} (h : Ready s) : exec .ackTimerExpiry s = .next s.expireAck :=
  congrArg Host.Outcome.next (take_ready _ h)

theorem exec_probeIdleExpiry {s : State} (h : Ready s) : exec .probeIdleExpiry s = .next s.expireProbe :=
  congrArg Host.Outcome.next (take_ready _ h)

/-- With nothing to send, a PROBE goes out at tPROBE (R118 line 2, R119). -/
theorem chooseFrame_probe {s : State} (hl : s.link.lane = none) (hin : s.inSession) (hnone : s.journal.sendable = none)
    (hidle : reached s.time s.seq.lastSend s.service.timers.tProbe = true) : s.chooseFrame true = s.sendProbe := by
  rw [chooseFrame_source true hl hin, State.sourceFrame, hnone, hidle]
  rfl

/-- A settled unit with a frame put on its lane is settled still. -/
theorem Settled.withLane {s : State} (hs : Settled s) (f : Frame) (t : Sequencer) :
    Settled ((s.withLink { s.link with lane := some f }).withSeq t) := by
  have hrest := (settled_iff s).1 hs
  exact (settled_iff _).2
    ⟨hrest.hail, hrest.head, nofun, hrest.stall, hrest.position, hrest.passed⟩

theorem expireProbe_due {s : State} (hs : Settled s) (h : s.probeDue = true) :
    s.expireProbe =
      (s.withLink { s.link with lane := some (.probe s.link.epoch) }).withSeq
        { s.seq with lastSend := some s.time } := by
  obtain ⟨hin, hlane, hblocked, hidle⟩ := (probeDue_iff s).1 h
  rw [State.expireProbe, if_pos h,
    chooseFrame_probe hlane hin ((sendable_none_iff _).2 hblocked) ((reached_iff _ _ _).2 hidle)]
  exact hs.withLane _ _

theorem askRewind_taken {s : State} {k : Nat} (h : s.seq.rounds + 1 ≤ s.service.timers.roundLimit) :
    s.askRewind k =
      ((s.withJournal
            { s.journal with
              entries :=
                s.journal.entries.take k ++ (s.journal.entries.drop k).map fun e => { e with sent := false } }).withSeq
          { s.seq with
            rounds := s.seq.rounds + 1
            ackStart := if k = 0 then none else some s.time }).withService
        { s.service with
          stats :=
            { s.service.stats with
              rewinds :=
                if s.service.stats.rewinds = 0xFFFFFFFF then 0xFFFFFFFF else s.service.stats.rewinds + 1 } } := by
  rw [State.askRewind, if_pos h, ← countUp_eq]
  rfl

theorem askRewind_exhausted {s : State} {k : Nat} (h : s.service.timers.roundLimit < s.seq.rounds + 1) :
    s.askRewind k =
      (s.offerFault .rounds none none (some s.journal.headPosition) (some s.link.epoch)).linkLoss .link :=
  if_neg (Nat.not_le.2 h)

/-- Settles O36, by when each timer is due, and by the two outcomes of a rewind. -/
theorem sequencerTimersAndRewinds : Obligations.SequencerTimersAndRewinds := by
  unfold Obligations.SequencerTimersAndRewinds
  refine ⟨fun s h => ⟨fun hin hage => ?_, fun hnot => ?_, fun blocked hblocked => ⟨?_, fun hnot => ?_⟩⟩,
    fun s k => ⟨askRewind_taken, fun h => ?_⟩⟩
  · rw [exec_ackTimerExpiry h, State.expireAck, if_pos ((ackDue_iff s).2 ⟨hin, hage⟩)]
  · rw [exec_ackTimerExpiry h, State.expireAck, if_neg fun hdue => hnot ((ackDue_iff s).1 hdue)]
  · intro hs hin hlane hb hidle
    rw [exec_probeIdleExpiry h, expireProbe_due hs ((probeDue_iff s).2 ⟨hin, hlane, hblocked.1 hb, hidle⟩)]
  · rw [exec_probeIdleExpiry h, State.expireProbe, if_neg]
    intro hdue
    obtain ⟨hin, hlane, hb, hidle⟩ := (probeDue_iff s).1 hdue
    exact hnot ⟨hin, hlane, hblocked.2 hb, hidle⟩
  · exact askRewind_exhausted h

end Sys2Proof.Machine
end

section
/-! The end of a frame on a SOURCE in UP, and where no sender has a frame to choose. -/

namespace Sys2Proof.Machine

/-- The lane carries idle fill (R94). -/
def State.freed (s : State) : State := s.withLink { s.link with lane := none }

theorem freed_same (s : State) : SameButSettled s s.freed := by
  simp [SameButSettled, State.freed]

theorem exec_frameEnd_idle {s : State} (h : Ready s) (hl : s.link.lane = none) : exec .frameEnd s = .next s := by
  refine congrArg Host.Outcome.next ((take_ready _ h).trans ?_)
  rw [hl]

theorem exec_frameEnd_busy {s : State} (h : Ready s) (hl : s.link.lane ≠ none) :
    exec .frameEnd s = .next (s.freed.settleWith true) := by
  obtain ⟨f, hf⟩ := Option.ne_none_iff_exists'.1 hl
  refine congrArg Host.Outcome.next ((take_ready _ h).trans ?_)
  rw [hf]
  rfl

/-- Where no sender has a frame to choose, a settled unit whose lane becomes free is at rest (R94). -/
theorem AtRest.freed_quiet {s : State} (hs : AtRest s)
    (h : s.role = .isolated ∨ s.role = .draining ∨ s.link.state = .down ∨ s.link.state = .clash) : AtRest s.freed where
  hail := hs.hail
  head := hs.head
  lane := by
    have hserved := chooseFrame_served s.freed false
    rwa [chooseFrame_quiet (s := s.freed) false h] at hserved
  stall := hs.stall
  position := hs.position
  passed := hs.passed

theorem frameEnd_quiet {s : State} (h : Ready s) (hs : Settled s)
    (hq : s.role = .isolated ∨ s.role = .draining ∨ s.link.state = .down ∨ s.link.state = .clash) :
    exec .frameEnd s = .next s.freed := by
  cases hl : s.link.lane with
  | none =>
    have hself : s.freed = s := by unfold State.freed; rw [← hl]; rfl
    rw [exec_frameEnd_idle h hl, hself]
  | some f =>
    rw [exec_frameEnd_busy h (by rw [hl]; nofun),
      (((settled_iff s).1 hs).freed_quiet hq).settleWith_self (chooseFrame_quiet true hq)]

/-- In UP the sequencer chooses the frame after the one that ends (R118). -/
theorem frameEnd_source {s : State} (hin : s.inSession) :
    (s.freed.settleWith true).link = (s.freed.sourceFrame true).link ∧
      (s.freed.settleWith true).journal.entries = (s.freed.sourceFrame true).journal.entries ∧
      (s.freed.settleWith true).seq = (s.freed.sourceFrame true).seq := by
  have hhail : s.freed.enterHail = s.freed := enterHail_refused fun h => nomatch hin.2.symm.trans h.1
  obtain ⟨hlink, hentries, hseq, -⟩ := settleWith_lane s.freed true
  rw [hhail, chooseFrame_source (s := s.freed) true rfl hin] at hlink hentries hseq
  exact ⟨hlink, hentries, hseq⟩

/-! ### The entry at the send cursor -/

theorem find?_cursor {front rest : List JournalEntry} {e : JournalEntry} (hf : ∀ x ∈ front, x.sent = true)
    (he : e.sent = false) : (front ++ e :: rest).find? (fun x => !x.sent) = some e := by
  rw [List.find?_append, List.find?_eq_none.2 fun x hx => by simp [hf x hx], List.find?_cons_of_pos (by simp [he])]
  rfl

theorem countP_cursor {front rest : List JournalEntry} {e : JournalEntry} (hf : ∀ x ∈ front, x.sent = true)
    (he : e.sent = false) (hr : ∀ x ∈ rest, x.sent = false) :
    (front ++ e :: rest).countP (·.sent) = front.length := by
  rw [List.countP_append, List.countP_eq_length.2 hf, List.countP_cons_of_neg (by simp [he]),
    List.countP_eq_zero.2 fun x hx => by simp [hr x hx]]
  rfl

theorem sendable_cursor {j : Journal} {front rest : List JournalEntry} {e : JournalEntry}
    (hj : j.entries = front ++ e :: rest) (hf : ∀ x ∈ front, x.sent = true) (he : e.sent = false)
    (hopen : e.isOpen = false) (hroom : j.entries.countP (·.sent) < 32) : j.sendable = some e := by
  unfold Journal.sendable
  rw [sentCount_eq_countP, hj, find?_cursor hf he, ← hj]
  exact if_pos ⟨hopen, hroom⟩

theorem sourceFrame_cursor {s : State} {e : JournalEntry} (probe : Bool) (h : s.journal.sendable = some e) :
    s.sourceFrame probe = s.sendEntry e := by
  rw [State.sourceFrame, h]

theorem sourceFrame_probe {s : State} (h : s.journal.sendable = none)
    (hidle : reached s.time s.seq.lastSend s.service.timers.tProbe = true) : s.sourceFrame true = s.sendProbe := by
  rw [State.sourceFrame, h, hidle]
  rfl

theorem sourceFrame_idle {s : State} (probe : Bool) (h : s.journal.sendable = none)
    (hidle : reached s.time s.seq.lastSend s.service.timers.tProbe = false) : s.sourceFrame probe = s := by
  rw [State.sourceFrame, h, hidle, Bool.and_false]
  rfl

/-- Settles O37, by the choice of R118 on the freed lane, and at rest where no sender chooses. -/
theorem frameEndOnASourceSendsTheCursor : Obligations.FrameEndOnASourceSendsTheCursor := by
  unfold Obligations.FrameEndOnASourceSendsTheCursor
  intro s h
  refine ⟨exec_frameEnd_idle h, fun hs hq => frameEnd_quiet h hs (by tauto), fun _ hin hbusy => ?_⟩
  obtain ⟨hlink, hentries, hseq⟩ := frameEnd_source hin
  refine ⟨_, exec_frameEnd_busy h hbusy, (freed_same s).trans (settleWith_same _ true), ?_, fun hblocked => ?_⟩
  · intro front e rest hj hf he hr hopen hroom
    have hcount : s.journal.entries.countP (·.sent) = front.length := by
      rw [hj, countP_cursor hf he hr]
    have hsend : s.freed.sourceFrame true = s.freed.sendEntry e :=
      sourceFrame_cursor true (sendable_cursor hj hf he hopen (hcount ▸ hroom))
    rw [← sentCount_eq_countP] at hcount
    rw [hsend] at hlink hentries hseq
    rw [hlink, hentries, hseq]
    refine ⟨rfl, ?_, ?_⟩
    · rw [← sendFirst_append front e rest hf he, ← hj]
      rfl
    · simp only [← List.length_eq_zero_iff, ← hcount]
      rfl
  · have hnone : s.freed.journal.sendable = none := (sendable_none_iff _).2 hblocked
    cases hidle : reached s.time s.seq.lastSend s.service.timers.tProbe with
    | true =>
      rw [sourceFrame_probe hnone hidle] at hlink hentries hseq
      refine ⟨hentries, fun _ => ⟨by rw [hlink]; rfl, hseq⟩, fun hyoung => ?_⟩
      obtain ⟨a, ha, hage⟩ := (reached_iff _ _ _).1 hidle
      exact absurd (hyoung a ha) (Nat.not_lt.2 hage)
    | false =>
      rw [sourceFrame_idle true hnone hidle] at hlink hentries hseq
      refine ⟨hentries, fun hold => ?_, fun _ => ⟨by rw [hlink]; rfl, hseq⟩⟩
      exact nomatch hidle.symm.trans ((reached_iff _ _ _).2 hold)

end Sys2Proof.Machine
end

section
/-! Entries that leave the journal by acknowledgment. -/

namespace Sys2Proof.Machine

/-! ### The word of a mark -/

theorem maskWord_any (mask : Mask) (k : Fin 8) :
    ((List.finRange 8).any fun j => mask.getLsbD (8 * k.val + j.val)) = true ↔
      ∃ j : Fin 8, mask.getLsbD (8 * k.val + j.val) = true := by
  simp

/-- Every mask bit is one of the 8 bytes of one of the 8 words. -/
theorem maskBit_word {mask : Mask} {i : Nat} (h : mask.getLsbD i = true) :
    ∃ k j : Fin 8, 8 * k.val + j.val = i ∧ mask.getLsbD (8 * k.val + j.val) = true := by
  have hi : i < 64 := BitVec.lt_of_getLsbD h
  have hsum : 8 * (i / 8) + i % 8 = i := Nat.div_add_mod i 8
  refine ⟨⟨i / 8, by omega⟩, ⟨i % 8, by omega⟩, hsum, ?_⟩
  change mask.getLsbD (8 * (i / 8) + i % 8) = true
  rwa [hsum]

/-- The word of a mask that is not empty holds one of its bytes (R127). -/
theorem wordIndexOf_holds {mask : Mask} (h : mask ≠ 0) :
    ∃ j : Fin 8, mask.getLsbD (8 * (wordIndexOf mask).val + j.val) = true := by
  unfold wordIndexOf
  cases hfind : (List.finRange 8).find? fun k => (List.finRange 8).any fun j => mask.getLsbD (8 * k.val + j.val) with
  | some k => exact (maskWord_any mask k).1 (by simpa using List.find?_some hfind)
  | none =>
    rw [List.find?_eq_none] at hfind
    refine absurd (BitVec.eq_of_getLsbD_eq fun i _ => ?_) h
    rw [BitVec.ofNat_eq_ofNat, BitVec.getLsbD_zero, ← Bool.not_eq_true]
    intro hbit
    obtain ⟨k, j, -, hword⟩ := maskBit_word hbit
    exact hfind k (List.mem_finRange k) ((maskWord_any mask k).2 ⟨j, hword⟩)

/-- In a list that rises, what is less than an element stands before it. -/
theorem mem_front_of_lt {n : Nat} {front rest : List (Fin n)} {a x : Fin n} (h : front ++ a :: rest = List.finRange n)
    (hx : x < a) : x ∈ front := by
  have hsorted : (front ++ a :: rest).Pairwise (· < ·) := h ▸ List.pairwise_lt_finRange n
  obtain ⟨-, htail, -⟩ := List.pairwise_append.1 hsorted
  rcases List.mem_append.1 (h ▸ List.mem_finRange x : x ∈ front ++ a :: rest) with hfront | hrest
  · exact hfront
  · rcases List.mem_cons.1 hrest with rfl | hlater
    · exact absurd hx (lt_irrefl _)
    · exact absurd (hx.trans (List.rel_of_pairwise_cons htail hlater)) (lt_irrefl _)

/-- The word of a mask is the lowest with a byte in it (R127). -/
theorem wordIndexOf_lowest (mask : Mask) (i : Nat) (hi : i < 8 * (wordIndexOf mask).val) : mask.getLsbD i = false := by
  rw [← Bool.not_eq_true]
  intro hbit
  obtain ⟨k, j, hsum, hword⟩ := maskBit_word hbit
  unfold wordIndexOf at hi
  cases hfind : (List.finRange 8).find? fun k => (List.finRange 8).any fun j => mask.getLsbD (8 * k.val + j.val) with
  | none =>
    rw [hfind] at hi
    exact absurd hi (Nat.not_lt_zero i)
  | some m =>
    rw [hfind] at hi
    have hkm : k < m := by
      have : i < 8 * m.val := hi
      omega
    obtain ⟨-, l, r, hl, hearlier⟩ := List.find?_eq_some_iff_append.1 hfind
    have hfirst := hearlier k (mem_front_of_lt hl.symm hkm)
    rw [(maskWord_any mask k).2 ⟨j, hword⟩] at hfirst
    exact nomatch hfirst

/-! ### One entry -/

/-- The statistic of acknowledged entries counts one (R127). -/
def State.countAcked (s : State) : State := s.count fun t => { t with entriesAcked := countUp t.entriesAcked }

/-- The held tags of an entry that leaves by acknowledgment, answered (R35). -/
def State.answerAcked (s : State) (e : JournalEntry) : State :=
  s.answerTags e.heldTags (if e.reported then .unmirrored else .okay)

theorem acknowledgeEntry_update {e : JournalEntry} (s : State) (h : e.kind = .update) :
    s.acknowledgeEntry e = (s.answerAcked e).countAcked := by
  unfold State.acknowledgeEntry
  rw [h]
  rfl

theorem acknowledgeEntry_mark {e : JournalEntry} (s : State) (h : e.kind = .mark) :
    s.acknowledgeEntry e =
      (((s.answerAcked e).withSeq
            { s.seq with
              confirmedMark :=
                { valid := true
                  window := e.window
                  target := e.target
                  wordIndex := wordIndexOf e.mask
                  word := wordAt e.data (wordIndexOf e.mask)
                  seq := e.seq
                  epoch := s.link.epoch
                  reported := e.reported } }).raise
          .markConfirmed).countAcked := by
  unfold State.acknowledgeEntry State.answerAcked
  rw [h, answerTags_eq]
  rfl

theorem acknowledgeEntry_sweep {e : JournalEntry} (s : State) (h : e.kind = .sweep) :
    s.acknowledgeEntry e = ((s.answerAcked e).sweepTest e.window).countAcked := by
  unfold State.acknowledgeEntry
  rw [h]
  rfl

/-- The R12 test reads nothing of the Host Port. -/
theorem sweepTest_withHost (s : State) (w : WinIdx) (h : HostPort) :
    (s.withHost h).sweepTest w = (s.sweepTest w).withHost h := by
  have hcount : (s.withHost h).dirtyCount w = s.dirtyCount w := rfl
  unfold State.sweepTest
  simp only [State.withHost_windows, State.withHost_journal, hcount]
  split <;> rfl

/-- The R12 test changes the windows and the raised events alone. -/
theorem sweepTest_eq (s : State) (w : WinIdx) :
    s.sweepTest w =
      (s.withWindows (s.sweepTest w).windows).withService
        { s.service with events := (s.sweepTest w).service.events } := by
  unfold State.sweepTest
  split <;> rfl

theorem acknowledge_cons {s : State} {e : JournalEntry} {rest : List JournalEntry} (n : Nat)
    (h : s.journal.entries = e :: rest) :
    State.acknowledge (n + 1) s = State.acknowledge n ((s.withEntries rest).acknowledgeEntry e) := by
  rw [State.acknowledge, h]

theorem acknowledge_entries (n : Nat) (s : State) :
    (State.acknowledge n s).journal.entries = s.journal.entries.drop n := by
  induction n generalizing s with
  | zero => rfl
  | succ n ih =>
    cases he : s.journal.entries with
    | nil => rw [State.acknowledge, he, List.drop_nil]; exact he
    | cons e rest =>
      rw [acknowledge_cons n he, ih, (acknowledgeEntry_same _ e).entries, List.drop_succ_cons]
      rfl

/-- Settles O47, entry by entry, each by its kind. -/
theorem acknowledgedEntriesReleaseTheirTags : Obligations.AcknowledgedEntriesReleaseTheirTags := by
  unfold Obligations.AcknowledgedEntriesReleaseTheirTags
  intro s
  refine ⟨fun n => acknowledge_entries n s, rfl, fun n e rest he => ⟨_, acknowledge_cons n he, ?_⟩⟩
  simp only [← countUp_eq]
  cases hk : e.kind with
  | update =>
    rw [acknowledgeEntry_update _ hk, State.answerAcked, answerTags_eq]
    exact ⟨rfl, rfl, rfl, fun _ => ⟨rfl, rfl, rfl⟩, nofun, nofun, rfl, rfl, rfl, rfl, rfl, rfl, rfl, rfl, rfl, rfl, rfl⟩
  | mark =>
    rw [acknowledgeEntry_mark _ hk, State.answerAcked, answerTags_eq]
    exact ⟨rfl, rfl, rfl, nofun, fun _ => ⟨rfl, rfl, wordIndexOf e.mask, wordIndexOf_holds, wordIndexOf_lowest e.mask, rfl⟩,
      nofun, rfl, rfl, rfl, rfl, rfl, rfl, rfl, rfl, rfl, rfl, rfl⟩
  | sweep =>
    rw [acknowledgeEntry_sweep _ hk, State.answerAcked, answerTags_eq, sweepTest_withHost]
    generalize ht : (s.withEntries rest).sweepTest e.window = t
    have heq := sweepTest_eq (s.withEntries rest) e.window
    rw [ht] at heq
    rw [heq]
    exact ⟨rfl, rfl, rfl, nofun, nofun, fun _ => ⟨rfl, rfl, rfl⟩, rfl, rfl, rfl, rfl, rfl, rfl, rfl, rfl, rfl, rfl, rfl⟩

end Sys2Proof.Machine
end

section
/-! What `settle` does, rule by rule: the stall, the sweep position, the passed-over count and the lane. -/

namespace Sys2Proof.Machine

/-! ### The stall and the passed-over count -/

theorem framed_kept (s : State) (probe : Bool) :
    (s.framed probe).journal.stallStart = s.journal.stallStart ∧ (s.framed probe).time = s.time ∧
      (s.framed probe).port = s.port := by
  unfold State.framed
  rw [chooseFrame_eq, answerHeads_eq, enterHail_eq]
  exact ⟨rfl, rfl, rfl⟩

theorem settleWith_stallTimed (s : State) (probe : Bool) :
    (s.settleWith probe).journal.stallStart =
      if (s.settleWith probe).headCondition = some .stalled then some (s.journal.stallStart.getD s.time) else none := by
  obtain ⟨hstall, htime, -⟩ := framed_kept s probe
  rw [settleWith_stall, timeStall_stallStart, settleWith_headCondition, hstall, htime]

theorem clearPassedOver_kept {s : State} (h : s.clearPassedOver.internalStands = true) : s.clearPassedOver = s := by
  unfold State.clearPassedOver at h ⊢
  split
  · rfl
  · rename_i hc
    rw [if_neg hc] at h
    exact absurd h hc

theorem settleWith_passed_kept {s : State} {probe : Bool} (h : (s.settleWith probe).internalStands = true) :
    (s.settleWith probe).port.passedOver = s.port.passedOver := by
  obtain ⟨-, -, hport⟩ := framed_kept s probe
  rw [settleWith_framed] at h ⊢
  rw [clearPassedOver_kept h, choosePosition_eq, timeStall_eq, ← hport]
  rfl

/-! ### The sweep position -/

/-- The granule found in a list that rises is the least of those that fit. -/
theorem find?_least {l : List Nat} {p : Nat → Bool} {g : Nat} (hl : l.Pairwise (· < ·)) (h : l.find? p = some g) :
    ∀ x ∈ l, p x = true → g ≤ x := by
  obtain ⟨-, front, rest, rfl, hfront⟩ := List.find?_eq_some_iff_append.1 h
  intro x hx hp
  rcases List.mem_append.1 hx with hx | hx
  · have := hfront x hx
    rw [hp] at this
    exact nomatch this
  · obtain ⟨-, htail, -⟩ := List.pairwise_append.1 hl
    rcases List.mem_cons.1 hx with rfl | hx
    · exact le_refl _
    · exact (List.rel_of_pairwise_cons htail hx).le

/-- The position taken is the lowest dirty granule of the lowest SWEEPING window that has one, from line 0 (R84). -/
theorem choosePosition_least {s : State} {p : SweepPosition} (hnone : s.sweep.position = none)
    (hd : s.dirty.Pairwise (· < ·)) (h : s.choosePosition.sweep.position = some p) :
    p.nextLine = 0 ∧ (∀ g ∈ s.dirty, s.windows[p.window].localHas g = true → p.granule ≤ g) ∧
      ∀ v : WinIdx, v < p.window → s.windows[v].state = .sweeping → ∀ g ∈ s.dirty, s.windows[v].localHas g = false := by
  unfold State.choosePosition at h
  rw [hnone] at h
  obtain ⟨lower, w, higher, hwindows, hw, hlower⟩ := List.findSome?_eq_some_iff.1 h
  split at hw
  · obtain ⟨g, hg, rfl⟩ := Option.map_eq_some_iff.1 hw
    refine ⟨rfl, find?_least hd hg, fun v hv hstate => ?_⟩
    have hno := hlower v (mem_front_of_lt hwindows.symm hv)
    rw [if_pos hstate, Option.map_eq_none_iff, List.find?_eq_none] at hno
    simpa using hno
  · exact nomatch hw

/-! ### The lane -/

theorem enterHail_lane (s : State) : s.enterHail.link.lane = s.link.lane := by
  unfold State.enterHail
  split <;> rfl

theorem sinkFrame_report {s : State} {r : Report} {rest : List Report} (h : s.rx.reportQueue = r :: rest) :
    s.sinkFrame = (s.beginFrame (.report r)).withRx { s.rx with reportQueue := rest } := by
  rw [State.sinkFrame, h]

theorem sinkFrame_nak {s : State} {reason : NakReason} (hreport : s.rx.reportQueue = []) (h : s.rx.nakSlot = some reason) :
    s.sinkFrame =
      (s.beginFrame (.nak s.link.epoch s.rx.expected reason)).withRx { s.rx with nakSlot := none } := by
  rw [State.sinkFrame, hreport, h]

theorem sinkFrame_ack {s : State} (hreport : s.rx.reportQueue = []) (hnak : s.rx.nakSlot = none)
    (h : s.rx.ackPending = true) :
    s.sinkFrame =
      (s.beginFrame (.ack s.link.epoch s.rx.lastApplied s.rx.applyFaults)).withRx
        { s.rx with ackPending := false } := by
  rw [State.sinkFrame, hreport, hnak]
  exact if_pos h

theorem sinkFrame_reply {s : State} (hreport : s.rx.reportQueue = []) (hnak : s.rx.nakSlot = none)
    (hack : s.rx.ackPending = false) (h : s.rx.replyOwed = true) :
    s.sinkFrame = (s.beginFrame (.hello (.sink s.link.epoch))).withRx { s.rx with replyOwed := false } := by
  rw [State.sinkFrame, hreport, hnak, hack, h]
  rfl

/-- What `settle` leaves in the link, the entries, the sequencer and the receiver is what the choice of the lane's frame
leaves there. -/
theorem settle_leaves {s t : State} (h : s.enterHail.chooseFrame false = t) :
    s.settle.link = t.link ∧ s.settle.journal.entries = t.journal.entries ∧ s.settle.seq = t.seq ∧
      s.settle.rx = t.rx := h ▸ settleWith_lane s false

/-- The HELLO that is owed goes out, and nothing happens while none is (R103). -/
theorem hello_sent {s : State} (h : s.helloOwed = true) (x : Hello) :
    (if s.helloOwed then s.sendHello x else s) = s.sendHello x := if_pos h

theorem hello_unsent {s : State} (h : s.helloOwed = false) (x : Hello) :
    (if s.helloOwed then s.sendHello x else s) = s := by
  rw [h]; rfl

theorem helloOwed_source {s : State} (hr : s.role = .source) : s.helloOwed = s.link.helloDue := by
  rw [State.helloOwed, hr]
  exact Bool.and_true _

theorem helloOwed_sink {s : State} (hr : s.role = .sink) :
    s.helloOwed = (s.link.helloDue && decide (s.rx.applyQueue.length ≤ 16)) := by
  rw [State.helloOwed, hr]
  rfl

/-- Settles O27, rule by rule: the answers, the stall, the position, the count, and the lane by role and link state. -/
theorem settlingFollowsTheRules : Obligations.SettlingFollowsTheRules := by
  unfold Obligations.SettlingFollowsTheRules
  intro s
  obtain ⟨n, hheads⟩ := settleWith_heads s false
  refine ⟨settleWith_head s false, ⟨n, _, hheads⟩, settleWith_stallTimed s false, fun p => settle_position_kept,
    fun hnone hd => ⟨fun p hp => ?_, settleWith_position⟩, (settleWith_atRest s false).passed, settleWith_passed_kept, ?_⟩
  · rw [State.settle, settleWith_sweep] at hp
    obtain ⟨hstate, hlocal, hmem⟩ := choosePosition_some hnone hp
    obtain ⟨hline, hleast, hlower⟩ := choosePosition_least hnone hd hp
    exact ⟨hline, hmem, hstate, hlocal, hleast, hlower⟩
  intro u hu
  have hleaves {t : State} := settle_leaves (s := s) (t := t)
  have hlane := enterHail_lane s
  rw [← hu] at hlane hleaves
  rw [enterHail_eq s] at hu
  generalize s.enterHail.link = link at hu
  subst hu
  set u := s.withLink link with hu
  refine ⟨fun hbusy => ?_, fun hq => hleaves (chooseFrame_quiet false hq), fun hfree => ?_⟩
  · obtain ⟨f, hf⟩ := Option.ne_none_iff_exists'.1 hbusy
    exact hleaves (chooseFrame_busy false (hlane.trans hf))
  replace hfree := hlane.trans hfree
  refine ⟨fun hup hr => ⟨?_, fun hblocked => ?_⟩, fun hh hr => ?_, fun hh hr => ?_, fun hup hr => ?_⟩
  · intro front e rest hj hf he hopen hroom
    have hsend := sourceFrame_cursor (s := u) false (sendable_cursor hj hf he hopen hroom)
    have hleft := hleaves ((chooseFrame_source false hfree ⟨hr, hup⟩).trans hsend)
    rw [← sendFirst_append front e rest hf he, ← hj, ← sentCount_eq_countP]
    exact hleft
  · refine hleaves ((chooseFrame_source false hfree ⟨hr, hup⟩).trans ?_)
    rw [State.sourceFrame, (sendable_none_iff u.journal).2 hblocked]
    rfl
  · have howed := helloOwed_source (s := u) hr
    refine ⟨fun h => ?_, fun h => ?_⟩
    · exact hleaves ((chooseFrame_hailSource false hfree hr hh).trans (hello_sent (howed.trans h) _))
    · exact hleaves ((chooseFrame_hailSource false hfree hr hh).trans (hello_unsent (howed.trans h) _))
  · have howed := helloOwed_sink (s := u) hr
    refine ⟨fun h hroom => ?_, fun h => ?_⟩
    · refine hleaves ((chooseFrame_hailSink false hfree hr hh).trans (hello_sent ?_ _))
      rw [howed, h]
      exact decide_eq_true hroom
    · refine hleaves ((chooseFrame_hailSink false hfree hr hh).trans (hello_unsent ?_ _))
      rw [howed, Bool.and_eq_false_iff, decide_eq_false_iff_not, Nat.not_le]
      exact h
  · have hsink := chooseFrame_sink (s := u) false hfree ⟨hr, hup⟩
    refine ⟨fun r rest h => hleaves (hsink.trans (sinkFrame_report h)), fun hreport => ⟨fun reason h =>
      hleaves (hsink.trans (sinkFrame_nak hreport h)), fun hnak => ⟨fun h =>
      hleaves (hsink.trans (sinkFrame_ack hreport hnak h)), fun hack => ⟨fun h =>
      hleaves (hsink.trans (sinkFrame_reply hreport hnak hack h)), fun h =>
      hleaves (hsink.trans (sinkFrame_eq_self hreport hnak hack h))⟩⟩⟩⟩

end Sys2Proof.Machine
end

section
/-! The completions of host operations and of sweep reads. -/

namespace Sys2Proof.Machine

theorem exec_completion_idle {s : State} (c : Completion) (h : Ready s) (ho : s.port.op = none) :
    exec (.memoryCompletion c) s = .next s := by
  refine congrArg Host.Outcome.next ((take_ready _ h).trans ?_)
  rw [ho]

theorem exec_completion {s : State} {o : Operation} (c : Completion) (h : Ready s) (ho : s.port.op = some o) :
    exec (.memoryCompletion c) s = .next (s.idlePort.completeFor o c).settle := by
  refine congrArg Host.Outcome.next ((take_ready _ h).trans ?_)
  rw [ho]

/-! ### Parity -/

/-- The exclusive or of the bits at the positions. -/
def bitsXor (p : Nat → Bool) (l : List Nat) : Bool := l.foldr (fun i odd => p i ^^ odd) false

theorem countP_odd (p : Nat → Bool) (l : List Nat) : (l.countP p) % 2 = (bitsXor p l).toNat := by
  induction l with
  | nil => rfl
  | cons i l ih =>
    have hstep : bitsXor p (i :: l) = (p i ^^ bitsXor p l) := rfl
    rw [List.countP_cons, Nat.add_mod, ih, hstep]
    cases p i <;> cases bitsXor p l <;> rfl

theorem oddParity_eq (b : Byte) : oddParity b = !bitsXor (b.getLsbD ·) (List.range 8) := by
  simp only [oddParity, bitsXor, List.range_eq_range', List.range', List.foldr_cons, List.foldr_nil, Bool.xor_false,
    Bool.xor_assoc]

/-- A byte and its parity bit hold an odd number of ones. -/
theorem oddParity_odd (b : Byte) : ((List.range 8).countP (b.getLsbD ·) + (oddParity b).toNat) % 2 = 1 := by
  rw [Nat.add_mod, countP_odd, oddParity_eq]
  cases bitsXor (b.getLsbD ·) (List.range 8) <;> rfl

theorem parityOf_bit (data : LineData) (i : Fin 64) : (parityOf data).getLsbD i = oddParity data[i] := by
  simp [parityOf]

/-! ### Host reads -/

theorem headOnPort_host {s : State} {o : Operation} {tag : Option Tag} {grant : HostGrant} (ho : s.port.op = some o)
    (hw : o.owner = .host tag grant) : s.headOnPort = false := by
  obtain ⟨line, access, owner⟩ := o
  subst hw
  rw [State.headOnPort, ho]

/-- With a host operation taken off the port a settled unit is settled still: the apply head was not on the port. -/
theorem Settled.idleHost {s : State} {o : Operation} {tag : Option Tag} {grant : HostGrant} (hs : Settled s)
    (ho : s.port.op = some o) (hw : o.owner = .host tag grant) : Settled s.idlePort := by
  have hrest := (settled_iff s).1 hs
  have hon : s.idlePort.headOnPort = s.headOnPort := (headOnPort_host ho hw).symm
  refine (settled_iff _).2
    ⟨hrest.hail, hrest.head, hrest.lane, hrest.stall, hrest.position, ?_⟩
  rw [internalStands_congr hon rfl rfl rfl rfl rfl]
  exact hrest.passed

theorem Settled.answer {s : State} (hs : Settled s) (tag : Tag) (status : HostStatus) (data : Option ReadData) :
    Settled (s.answer tag status data) :=
  hs.congr ⟨rfl, rfl, rfl, rfl, rfl, rfl, rfl, rfl, rfl, rfl, rfl, rfl, rfl, rfl, rfl⟩

theorem exec_hostRead {s : State} {line : Line} {tag : Option Tag} {grant : HostGrant} (c : Completion)
    (h : Ready s) (ho : s.port.op = some { line := line, access := .read, owner := .host tag grant }) :
    exec (.memoryCompletion c) s = .next (s.idlePort.completeRead tag c).settle := by
  have hfor : s.idlePort.completeFor { line := line, access := .read, owner := .host tag grant } c =
      s.idlePort.completeRead tag c := rfl
  rw [exec_completion c h ho, hfor]

theorem completeRead_untagged (s : State) (c : Completion) : s.completeRead none c = s := by
  cases c <;> rfl

/-- A read of a settled unit is answered, and nothing more follows (R49). -/
theorem exec_hostRead_answered {s : State} {line : Line} {a : Tag} {grant : HostGrant} {c : Completion}
    {status : HostStatus} {data : Option ReadData} (h : Ready s) (hs : Settled s)
    (ho : s.port.op = some { line := line, access := .read, owner := .host (some a) grant })
    (hc : s.idlePort.completeRead (some a) c = s.idlePort.answer a status data) :
    exec (.memoryCompletion c) s = .next (s.idlePort.answer a status data) := by
  rw [exec_hostRead c h ho, hc]
  exact congrArg Host.Outcome.next ((hs.idleHost ho rfl).answer a status data)

/-! ### Host writes -/

theorem completionOk_iff (c : Completion) : completionOk c = true ↔ c ≠ .error := by
  cases c <;> simp [completionOk]

theorem writeStatus_eq (poisoned : Bool) (c : Completion) :
    writeStatus poisoned c = if c = .error then .memoryError else if poisoned then .poisoned else .okay := by
  cases c <;> rfl

theorem carries_iff (e : JournalEntry) (q : Seq) : e.carries q = true ↔ e.seq = q ∧ e.isOpen = true := by
  simp [JournalEntry.carries]

theorem close_eq (e : JournalEntry) (c : Completion) (tag : Option Tag) :
    e.close (completionOk c) tag =
      { e with
        isOpen := false, poison := if c = Completion.error then true else e.poison
        heldTags := e.heldTags ++ tag.toList } := by
  cases c with
  | error => simp [JournalEntry.close, completionOk]
  | ok data poison => simp [JournalEntry.close, completionOk]

theorem closeEntry_eq (s : State) (q : Seq) (c : Completion) (tag : Option Tag) :
    s.closeEntry q (completionOk c) tag =
      s.withJournal
        { s.journal with
          entries :=
            s.journal.entries.map fun e =>
              if e.seq = q ∧ e.isOpen = true then
                { e with
                  isOpen := false, poison := if c = Completion.error then true else e.poison
                  heldTags := e.heldTags ++ tag.toList }
              else e } := by
  unfold State.closeEntry
  simp only [carries_iff, close_eq]
  rfl

theorem exec_hostWrite {s : State} {line : Line} {mask : Mask} {data : LineData} {poisoned : Bool} {tag : Option Tag}
    {grant : HostGrant} (c : Completion) (h : Ready s) (hg : grant = .pass ∨ grant = .track)
    (ho : s.port.op = some { line := line, access := .write mask data poisoned, owner := .host tag grant }) :
    exec (.memoryCompletion c) s = .next (s.idlePort.answerPort tag (writeStatus poisoned c) none).settle := by
  have hfor : s.idlePort.completeFor { line := line, access := .write mask data poisoned, owner := .host tag grant } c =
      s.idlePort.answerPort tag (writeStatus poisoned c) none := by
    rcases hg with rfl | rfl
    · rfl
    · rfl
  rw [exec_completion c h ho, hfor]

theorem exec_capturedWrite {s : State} {line : Line} {mask : Mask} {data : LineData} {poisoned : Bool}
    {tag : Option Tag} {cls : CommitClass} {q : Seq} (c : Completion) (h : Ready s)
    (ho : s.port.op =
      some { line := line, access := .write mask data poisoned, owner := .host tag (.capture cls q) }) :
    exec (.memoryCompletion c) s = .next (s.idlePort.completeCapture tag cls q poisoned c).settle := by
  have hfor :
      s.idlePort.completeFor
          { line := line, access := .write mask data poisoned, owner := .host tag (.capture cls q) } c =
        s.idlePort.completeCapture tag cls q poisoned c := rfl
  rw [exec_completion c h ho, hfor]

/-- A captured write that is not a HELD one completed well closes its entry and is answered at once (R28, R50). -/
theorem completeCapture_answered {s : State} {tag : Option Tag} {cls : CommitClass} {q : Seq} {poisoned : Bool}
    {c : Completion} (h : ¬ (cls = .held ∧ c ≠ .error ∧ poisoned = false)) :
    s.completeCapture tag cls q poisoned c =
      (s.closeEntry q (completionOk c) none).answerPort tag (writeStatus poisoned c) none := by
  rw [← completionOk_iff] at h
  exact if_neg h

theorem completeCapture_untagged {s : State} {q : Seq} {c : Completion} (h : c ≠ .error) :
    s.completeCapture none .held q false c = s.closeEntry q (completionOk c) none := by
  have hok := (completionOk_iff c).2 h
  rw [State.completeCapture, if_pos ⟨rfl, hok, rfl⟩, hok]

theorem any_carries (l : List JournalEntry) (q : Seq) :
    l.any (·.carries q) = true ↔ ∃ e ∈ l, e.seq = q ∧ e.isOpen = true := by
  simp [carries_iff]

/-- A HELD write completed well whose entry still stands is held: its tag joins the entry's list (R28, R51). -/
theorem completeCapture_held {s : State} {a : Tag} {q : Seq} {c : Completion} (h : c ≠ .error)
    (he : ∃ e ∈ s.journal.entries, e.seq = q ∧ e.isOpen = true) :
    s.completeCapture (some a) .held q false c =
      (s.closeEntry q (completionOk c) (some a)).withHost
        { s.host with held := s.host.held ++ [{ tag := a, seq := q, start := s.time }] } := by
  have hok := (completionOk_iff c).2 h
  rw [State.completeCapture, if_pos ⟨rfl, hok, rfl⟩, hok]
  exact if_pos ((any_carries _ _).2 he)

/-- A HELD write whose entry has left the journal lost its commitment (R29, R51). -/
theorem completeCapture_lost {s : State} {a : Tag} {q : Seq} {c : Completion} (h : c ≠ .error)
    (he : ¬ ∃ e ∈ s.journal.entries, e.seq = q ∧ e.isOpen = true) :
    s.completeCapture (some a) .held q false c = s.answer a .unmirrored none := by
  rw [State.completeCapture, if_pos ⟨rfl, (completionOk_iff c).2 h, rfl⟩]
  exact if_neg (by rwa [any_carries])

/-- Settles O31, reads by a settled idle port, writes by the captured entry's fate. -/
theorem hostCompletionsAnswer : Obligations.HostCompletionsAnswer := by
  unfold Obligations.HostCompletionsAnswer
  refine ⟨fun s c h => ⟨exec_completion_idle c h, fun line tag grant hs ho => ⟨?_, ?_⟩⟩, ?_⟩
  · rintro rfl
    rw [exec_hostRead c h ho, completeRead_untagged]
    exact congrArg Host.Outcome.next (hs.idleHost ho rfl)
  · rintro a rfl
    refine ⟨?_, ?_⟩
    · rintro rfl
      exact exec_hostRead_answered h hs ho rfl
    · rintro data poison rfl
      refine ⟨parityOf data, fun i => ?_, exec_hostRead_answered h hs ho rfl⟩
      rw [parityOf_bit]
      exact oddParity_odd _
  · intro s c line mask data poisoned tag grant h ho
    simp only [← writeStatus_eq]
    refine ⟨?_, ?_⟩
    · intro hg
      rw [exec_hostWrite c h hg ho]
      rfl
    · rintro cls q rfl
      have hexec := exec_capturedWrite c h ho
      refine ⟨fun hnot => ?_, ?_⟩
      · rw [hexec, completeCapture_answered hnot, closeEntry_eq]
        rfl
      · rintro rfl hok rfl
        refine ⟨?_, ?_⟩
        · rintro rfl
          rw [hexec, completeCapture_untagged hok, closeEntry_eq]
          rfl
        · rintro a rfl
          refine ⟨fun he => ?_, fun he => ?_⟩
          · rw [hexec, completeCapture_held (s := s.idlePort) hok he, closeEntry_eq]
            rfl
          · rw [hexec, completeCapture_lost (s := s.idlePort) hok he]
            rfl

/-! ### Sweep reads -/

/-- The state in which the journal takes the line: the read is no longer in flight, and a failed one is recorded (R86,
R87). -/
def State.sweepRead (s : State) (w : WinIdx) (line : Line) (c : Completion) : State :=
  let idle := s.idlePort.withSweep { s.sweep with inFlight := none }
  if c = .error then idle.offerFault .memoryError (some w) (some line) none none else idle

/-- The journal takes the line that was read (R30). -/
def State.takeLine (s : State) (w : WinIdx) (line : Line) (c : Completion) : State :=
  (s.sweepRead w line c).withJournal (s.journal.append (s.sweepEntry w line c))

theorem completeFor_sweep (s : State) (line : Line) (access : Access) (w : WinIdx) (c : Completion) :
    s.idlePort.completeFor { line := line, access := access, owner := .sweep w false } c =
      if s.windows[w].state = .sweeping ∧ s.windows[w].localHas line.granule = true then
        if (s.sweep.inFlight.map SweepRead.current).getD false then (s.takeLine w line c).advanceSweep w
        else s.takeLine w line c
      else s.sweepRead w line c := by
  cases c <;> rfl

theorem current_iff (r : Option SweepRead) :
    (r.map SweepRead.current).getD false = true ↔ ∃ x, r = some x ∧ x.current = true := by
  cases r <;> simp

theorem takeLine_sweep (s : State) (w : WinIdx) (line : Line) (c : Completion) :
    (s.takeLine w line c).sweep = { s.sweep with inFlight := none } ∧ (s.takeLine w line c).dirty = s.dirty := by
  cases c <;> exact ⟨rfl, rfl⟩

/-- The next line of the granule is to be read (R86). -/
theorem advanceSweep_line {s : State} {w : WinIdx} {p : SweepPosition} (hp : s.sweep.position = some p)
    (h : p.nextLine ≠ 1023) :
    s.advanceSweep w = s.withSweep { s.sweep with position := some { p with nextLine := p.nextLine + 1 } } := by
  rw [State.advanceSweep, hp]
  exact if_neg h

/-- After line 1023 the granule is clean, and the R12 test is made (R86). -/
theorem advanceSweep_granule {s : State} {w : WinIdx} {p : SweepPosition} (hp : s.sweep.position = some p)
    (h : p.nextLine = 1023) :
    s.advanceSweep w =
      ((s.withDirty (s.dirty.filter fun g => g ≠ p.granule)).withSweep { s.sweep with position := none }).sweepTest w := by
  rw [State.advanceSweep, hp]
  simp only [bne_eq_decide]
  exact if_pos h

/-- Settles O32, by the branches of the completion and of the advance. -/
theorem sweepCompletionAppendsTheLine : Obligations.SweepCompletionAppendsTheLine := by
  unfold Obligations.SweepCompletionAppendsTheLine
  intro s c line w discarded h ho
  have hexec := exec_completion c h ho
  refine ⟨?_, ?_, ?_, ?_⟩
  · rintro rfl
    rw [hexec]
    rfl
  · rintro rfl hnot
    rw [hexec, completeFor_sweep, if_neg hnot]
    rfl
  · rintro rfl htaken hnot
    rw [hexec, completeFor_sweep, if_pos htaken, if_neg (by rwa [current_iff])]
    rfl
  · rintro rfl htaken hcurrent p hp
    obtain ⟨hsweep, hdirty⟩ := takeLine_sweep s w line c
    have hposition : (s.takeLine w line c).sweep.position = some p := by rw [hsweep]; exact hp
    rw [hexec, completeFor_sweep, if_pos htaken, if_pos ((current_iff _).2 hcurrent)]
    refine ⟨fun hline => ?_, fun hline => ?_⟩
    · rw [advanceSweep_line hposition hline, hsweep]
      rfl
    · rw [advanceSweep_granule hposition hline, hsweep, hdirty]
      rfl

end Sys2Proof.Machine
end

section
/-! SET_TIMERS: the settings on the wire, the checks, and the timers that expire in its step. -/

namespace Sys2Proof.Machine

/-! ### The settings on the wire -/

theorem beBytes_four (v : Nat) :
    beBytes 4 v =
      [BitVec.ofNat 8 (v / 16777216), BitVec.ofNat 8 (v / 65536), BitVec.ofNat 8 (v / 256), BitVec.ofNat 8 v] := by
  simp [beBytes, Nat.div_div_eq_div_mul]

/-- The twenty-one argument bytes of SET_TIMERS give the settings back (R170, R173). -/
theorem timersArgs_bytes {t : Timers} (hack : t.tAck < 2 ^ 32) (hprobe : t.tProbe < 2 ^ 32) (hquiet : t.tQuiet < 2 ^ 32)
    (hstall : t.tStall < 2 ^ 32) (hheld : t.tHeld < 2 ^ 32) (hrounds : t.roundLimit < 256) : timersArgs t.bytes = t := by
  have hlast : argNat (beBytes 1 t.roundLimit) 0 1 = t.roundLimit := by
    have h := argNat_head 1 t.roundLimit [] (by simpa using hrounds)
    rwa [List.append_nil] at h
  have hskip (v : Nat) (r : List Byte) (m n : Nat) : argNat (beBytes 4 v ++ r) (4 + m) n = argNat r m n :=
    argNat_skip 4 v r m n
  have htake (v : Nat) (r : List Byte) (h : v < 2 ^ 32) : argNat (beBytes 4 v ++ r) 0 4 = v := argNat_head 4 v r h
  obtain ⟨ack, probe, quiet, stall, held, rounds⟩ := t
  unfold timersArgs Timers.bytes
  rw [Timers.mk.injEq]
  simp only [List.append_assoc]
  refine ⟨htake _ _ hack, ?_, ?_, ?_, ?_, ?_⟩
  · exact (hskip _ _ 0 4).trans (htake _ _ hprobe)
  · exact (hskip _ _ 4 4).trans ((hskip _ _ 0 4).trans (htake _ _ hquiet))
  · exact (hskip _ _ 8 4).trans ((hskip _ _ 4 4).trans ((hskip _ _ 0 4).trans (htake _ _ hstall)))
  · exact (hskip _ _ 12 4).trans ((hskip _ _ 8 4).trans ((hskip _ _ 4 4).trans ((hskip _ _ 0 4).trans
      (htake _ _ hheld))))
  · exact (hskip _ _ 16 1).trans ((hskip _ _ 12 1).trans ((hskip _ _ 8 1).trans ((hskip _ _ 4 1).trans
      ((hskip _ _ 0 1).trans hlast))))

theorem timersBytes_length (t : Timers) : t.bytes.length = 21 := by
  simp [Timers.bytes, beBytes_length]

theorem exec_setTimers {s : State} {t : Timers} (echo : Byte) (h : Ready s) (hargs : timersArgs t.bytes = t) :
    exec (.setTimers echo t.bytes) s = .next (s.setTimers echo t) := by
  refine congrArg Host.Outcome.next ((takeCommand_taken echo 11 t.bytes _ h (timersBytes_length t)).trans ?_)
  rw [hargs]

/-! ### The checks -/

theorem inRange_iff (t : Timers) :
    t.inRange = true ↔
      (2 ≤ t.tAck ∧ t.tAck ≤ 1000) ∧ (10 ≤ t.tProbe ∧ t.tProbe ≤ 10000) ∧ (50 ≤ t.tQuiet ∧ t.tQuiet ≤ 50000) ∧
        (1 ≤ t.tStall ∧ t.tStall ≤ 1000) ∧ (10 ≤ t.tHeld ∧ t.tHeld ≤ 100000) ∧ t.roundLimit ≤ 7 := by
  simp only [Timers.inRange, Bool.and_eq_true, decide_eq_true_eq, and_assoc]

theorem ordered_iff (t : Timers) : t.ordered = true ↔ 2 * t.tProbe + t.tAck ≤ t.tQuiet := decide_eq_true_iff

theorem setTimers_range {s : State} {t : Timers} (echo : Byte) (h : ¬ t.inRange = true) :
    s.setTimers echo t = s.reply echo 11 .refused .value s.service.timers.bytes := if_pos (by simpa using h)

theorem setTimers_order {s : State} {t : Timers} (echo : Byte) (hrange : t.inRange = true) (h : ¬ t.ordered = true) :
    s.setTimers echo t = s.reply echo 11 .refused .order s.service.timers.bytes := by
  rw [State.setTimers, hrange]
  exact if_pos (by simpa using h)

theorem setTimers_legal {s : State} {t : Timers} (echo : Byte) (hrange : t.inRange = true) (h : t.ordered = true) :
    s.setTimers echo t =
      if t = s.service.timers then s.replyDone echo 11 t.bytes
      else (s.withTimers t).expireDueTimers.replyDone echo 11 t.bytes := by
  rw [State.setTimers, hrange, h]
  rfl

/-! ### The timers that are due -/

/-- The timers that are due, in the order of R173. -/
def State.dueTimers (s : State) : List TimerName :=
  [TimerName.ack, .probe, .quiet, .stall, .held].filter s.timerDue

theorem mem_dueTimers (s : State) (n : TimerName) : n ∈ s.dueTimers ↔ s.timerDue n = true := by
  rw [State.dueTimers, List.mem_filter, and_iff_right_iff_imp]
  intro _
  cases n <;> decide

theorem dueTimers_nodup (s : State) : s.dueTimers.Nodup := by
  have hall : [TimerName.ack, .probe, .quiet, .stall, .held].Nodup := by decide
  exact hall.sublist List.filter_sublist

theorem expireDueTimers_few {s : State} (h : s.dueTimers.length ≤ 1) :
    s.expireDueTimers = s.dueTimers.foldl State.expireTimer s := if_pos h

theorem expireDueTimers_many {s : State} (h : ¬ s.dueTimers.length ≤ 1) :
    s.expireDueTimers =
      ((permute (Config.freeOrder s.freeCount) s.dueTimers).foldl State.expireTimer s).withFreeCount (s.freeCount + 1) :=
  if_neg h

theorem expireDueTimers_none {s : State} (h : ∀ n, s.timerDue n = false) : s.expireDueTimers = s := by
  have hnil : s.dueTimers = [] := List.filter_eq_nil_iff.2 fun n _ => by rw [h n]; exact Bool.false_ne_true
  rw [expireDueTimers_few (by rw [hnil]; exact Nat.zero_le _), hnil]
  rfl

theorem expireDueTimers_one {s : State} {n : TimerName} (hn : s.timerDue n = true)
    (honly : ∀ m, s.timerDue m = true → m = n) : s.expireDueTimers = s.expireTimer n := by
  have hone : s.dueTimers = [n] := by
    rw [← List.perm_singleton, List.perm_ext_iff_of_nodup (dueTimers_nodup s) (List.nodup_singleton n)]
    intro m
    rw [mem_dueTimers, List.mem_singleton]
    exact ⟨honly m, fun hm => hm ▸ hn⟩
  rw [expireDueTimers_few (by rw [hone]; exact le_refl 1), hone]
  rfl

/-- Every timer that is due expires, each once, in some order (R173). -/
theorem expireDueTimers_order (s : State) :
    ∃ l : List TimerName, l.Nodup ∧ (∀ n, n ∈ l ↔ s.timerDue n = true) ∧
      (s.expireDueTimers = l.foldl State.expireTimer s ∨
        s.expireDueTimers = (l.foldl State.expireTimer s).withFreeCount (s.freeCount + 1)) := by
  by_cases h : s.dueTimers.length ≤ 1
  · exact ⟨s.dueTimers, dueTimers_nodup s, mem_dueTimers s, .inl (expireDueTimers_few h)⟩
  · have hperm := permute_perm (Config.freeOrder s.freeCount) s.dueTimers
    exact ⟨_, hperm.nodup_iff.2 (dueTimers_nodup s), fun n => hperm.mem_iff.trans (mem_dueTimers s n),
      .inr (expireDueTimers_many h)⟩

/-! ### What an expiry does -/

/-- A timer that is not due does nothing. -/
theorem expireTimer_early {s : State} {n : TimerName} (h : s.timerDue n = false) : s.expireTimer n = s := by
  have hnot : ¬ s.timerDue n = true := by rw [h]; exact Bool.false_ne_true
  cases n with
  | ack =>
    have hdue : ¬ s.ackDue = true := hnot
    rw [State.expireTimer, State.expireAck, if_neg hdue]
  | probe =>
    have hdue : ¬ s.probeDue = true := hnot
    rw [State.expireTimer, State.expireProbe, if_neg hdue]
  | quiet =>
    have hdue : ¬ s.silenceDue = true := hnot
    rw [State.expireTimer, State.expireSilence, if_neg hdue]
  | stall =>
    have hdue : ¬ s.stallDue = true := hnot
    rw [State.expireTimer, State.expireStall, if_neg hdue]
  | held =>
    rw [State.expireTimer]
    refine List.foldl_fixed' (fun tag => expireHold_early fun r hr _ => ?_) allTags
    exact Nat.not_le.1 fun hage => hnot ((heldDue_iff s).2 ⟨r, hr, hage⟩)

theorem expireProbe_sends {s : State} (h : s.probeDue = true) : s.expireProbe = s.sendProbe.settle := by
  obtain ⟨hin, hlane, hblocked, hidle⟩ := (probeDue_iff s).1 h
  rw [State.expireProbe, if_pos h,
    chooseFrame_probe hlane hin ((sendable_none_iff _).2 hblocked) ((reached_iff _ _ _).2 hidle)]

/-- Settles O12, by the checks in their order, and by the list of the timers that are due. -/
theorem setTimersReplacesAllOrNothing : Obligations.SetTimersReplacesAllOrNothing := by
  unfold Obligations.SetTimersReplacesAllOrNothing
  refine ⟨?_, fun v => ⟨ackDue_iff v, probeDue_iff v, silenceDue_iff v, stallDue_iff v, heldDue_iff v⟩, fun v => ?_⟩
  · intro echo t s hack hprobe hquiet hstall hheld hrounds h four wire legal
    have hwire (x : Timers) : wire x = x.bytes := by
      simp only [wire, four, Timers.bytes, beBytes_four]
      rfl
    have hlegal : legal ↔ t.inRange = true := (inRange_iff t).symm
    rw [hwire, hwire, exec_setTimers echo h (timersArgs_bytes hack hprobe hquiet hstall hheld hrounds), hlegal]
    refine ⟨fun hr => ?_, fun hr ho => ?_, fun hr ho hsame => ?_, fun hr ho hnew => ?_⟩
    · rw [setTimers_range echo hr]
    · rw [setTimers_order echo hr (by rw [ordered_iff]; omega)]
    · rw [setTimers_legal echo hr ((ordered_iff t).2 ho), if_pos hsame]
      rfl
    · rw [setTimers_legal echo hr ((ordered_iff t).2 ho), if_neg hnew]
      refine ⟨fun hnone => ?_, fun n hn honly => ?_, ?_⟩
      · rw [expireDueTimers_none (s := s.withTimers t) hnone]
        rfl
      · rw [expireDueTimers_one (s := s.withTimers t) hn honly]
        rfl
      · obtain ⟨l, hnodup, hmem, horder⟩ := expireDueTimers_order (s.withTimers t)
        exact ⟨l, hnodup, hmem, _, horder, rfl⟩
  · refine ⟨fun n => expireTimer_early, fun h => if_pos h, expireProbe_sends, fun h => if_pos h, ?_, rfl, fun h => ?_⟩
    · exact fun r rest w hdue hq hc => expireStall_due hdue hq hc
    · exact ⟨exec_ackTimerExpiry h, exec_probeIdleExpiry h, exec_silenceExpiry h, exec_stallExpiry h,
        fun tag => congrArg Host.Outcome.next (take_ready _ h)⟩

end Sys2Proof.Machine
end

section
/-! What is due at once is done at once: after the examinations and the grant nothing of the two is due. -/

namespace Sys2Proof.Machine

/-! ### Enough examinations -/

theorem finishEntry_applyQueue (s : State) (e : ApplyEntry) (how : Finish) :
    (s.finishEntry e how).rx.applyQueue = s.rx.applyQueue.tail := by
  have hmove (t : State) : (t.moveApplied e).rx.applyQueue = t.rx.applyQueue := by
    unfold State.moveApplied
    split <;> rfl
  cases how with
  | written =>
    refine (hmove _).trans ?_
    unfold State.countApplied
    simp only
    split <;> rfl
  | unwritten => exact hmove _
  | fault kind window =>
    refine (hmove _).trans ?_
    unfold State.applyFault
    simp only
    split <;> rfl

theorem examineFrom_applyQueue (l : List ApplyEntry) (s : State) :
    (State.examineFrom l s).rx.applyQueue.length ≤ s.rx.applyQueue.length := by
  induction l generalizing s with
  | nil => exact le_refl _
  | cons e l ih =>
    have hfinish (how : Finish) :
        (State.examineFrom l (s.finishEntry e how)).rx.applyQueue.length ≤ s.rx.applyQueue.length := by
      refine (ih _).trans ?_
      rw [finishEntry_applyQueue, List.length_tail]
      exact Nat.sub_le _ _
    unfold State.examineFrom
    split
    · exact le_refl _
    · split
      · exact hfinish _
      · split
        · exact le_refl _
        · exact hfinish _

theorem drainCheck_applyQueue (s : State) : s.drainCheck.rx.applyQueue = s.rx.applyQueue := by
  unfold State.drainCheck State.endDrain
  split
  · exact changeRole_applyQueue s .source
  · rfl

theorem SameButSettled.applyQueue_eq {u t : State} (h : SameButSettled u t) : t.rx.applyQueue = u.rx.applyQueue := by
  obtain ⟨-, -, -, -, -, -, -, -, -, -, -, -, -, -, -, -, -, hqueue, -⟩ := h
  exact hqueue

theorem SameButSettled.op_eq {u t : State} (h : SameButSettled u t) : t.port.op = u.port.op := by
  obtain ⟨-, -, -, hop, -⟩ := h
  exact hop

/-- An examination that is due takes an entry off the queue (R140). -/
theorem examineNow_shorter {s : State} (h : s.examineDue = true) :
    s.examineNow.rx.applyQueue.length < s.rx.applyQueue.length := by
  obtain ⟨e, rest, hq, hport, hreports, hdue⟩ := (examineDue_iff s).1 h
  have hfinish (how : Finish) : (s.finishEntry e how).examine.rx.applyQueue.length < s.rx.applyQueue.length := by
    refine (examineFrom_applyQueue _ _).trans_lt ?_
    rw [finishEntry_applyQueue, hq]
    exact Nat.lt_succ_self _
  rw [State.examineNow, if_pos h, (settle_same _).applyQueue_eq, drainCheck_applyQueue, examine_head hq hport hreports]
  split
  · exact hfinish _
  · rename_i hmask
    rw [if_pos (hdue.resolve_left hmask)]
    exact hfinish _

theorem examineAll_due {n : Nat} {s : State} (h : s.examineDue = true) :
    State.examineAll (n + 1) s = State.examineAll n s.examineNow := if_pos h

/-- As many examinations as the queue holds entries are enough: more change nothing. -/
theorem examineAll_enough {n m : Nat} {s : State} (hn : s.rx.applyQueue.length ≤ n) (hm : s.rx.applyQueue.length ≤ m) :
    State.examineAll n s = State.examineAll m s := by
  induction n generalizing s m with
  | zero =>
    have hnone : s.examineDue = false := by
      unfold State.examineDue
      rw [List.length_eq_zero_iff.1 (Nat.le_zero.1 hn)]
    rw [examineAll_none _ hnone, examineAll_none _ hnone]
  | succ n ih =>
    cases hdue : s.examineDue with
    | false => rw [examineAll_none _ hdue, examineAll_none _ hdue]
    | true =>
      have hshort := examineNow_shorter hdue
      obtain ⟨m, rfl⟩ : ∃ k, m = k + 1 := ⟨m - 1, by omega⟩
      rw [examineAll_due hdue, examineAll_due hdue]
      exact ih (by omega) (by omega)

theorem examineAll_notDue {n : Nat} {s : State} (h : s.rx.applyQueue.length ≤ n) :
    (State.examineAll n s).examineDue = false := by
  induction n generalizing s with
  | zero =>
    unfold State.examineAll State.examineDue
    rw [List.length_eq_zero_iff.1 (Nat.le_zero.1 h)]
  | succ n ih =>
    cases hdue : s.examineDue with
    | false => rw [examineAll_none _ hdue, hdue]
    | true =>
      have hshort := examineNow_shorter hdue
      rw [examineAll_due hdue]
      exact ih (by omega)

theorem prompt_released {s : State} (h : s.coldPin = false) :
    s.prompt = (State.examineAll s.rx.applyQueue.length s).grantNow := if_neg (by simp [h])

theorem EventAside.coldPin_eq {s t : State} (h : EventAside s t) : t.coldPin = s.coldPin := by
  obtain ⟨hpin, -⟩ := h
  exact hpin

theorem EventAside.resetLine_eq {s t : State} (h : EventAside s t) : t.host.resetLine = s.host.resetLine := by
  obtain ⟨-, hline, -⟩ := h
  exact hline

/-- What is due after a due examination is what was due with it. -/
theorem prompt_examineNow {s : State} (hp : s.coldPin = false) (h : s.examineDue = true) :
    s.prompt = s.examineNow.prompt := by
  have hshort := examineNow_shorter h
  obtain ⟨k, hk⟩ : ∃ k, s.rx.applyQueue.length = k + 1 := ⟨s.rx.applyQueue.length - 1, by omega⟩
  rw [prompt_released hp, prompt_released ((examineNow_aside s).coldPin_eq.trans hp), hk, examineAll_due h,
    examineAll_enough (m := s.examineNow.rx.applyQueue.length) (by omega) (le_refl _)]

theorem prompt_examined {s : State} (hp : s.coldPin = false) (h : s.examineDue = false) : s.prompt = s.grantNow := by
  rw [prompt_released hp, examineAll_none _ h]

/-! ### A grant puts an operation on the port -/

theorem grantNow_chosen {s : State} {g : Grantee} {n : Nat} (hop : s.port.op = none)
    (h : s.arbiterChoice = some (g, n)) : s.grantNow = ((s.grantTo g).withPassedOver n).settle := by
  rw [State.grantNow, hop, h]
  rfl

/-- What every grant leaves as it was, read where the apply engine and the lane look (R72). -/
structure GrantKept (s t : State) : Prop where
  rx : t.rx = s.rx
  link : t.link = s.link
  role : t.role = s.role

theorem grantHost_kept (s : State) (r : QueuedRequest) (rest : List QueuedRequest) :
    GrantKept s (s.grantHost r rest) ∧ (s.grantHost r rest).windows = s.windows := by
  unfold State.grantHost
  simp only
  split
  · exact ⟨⟨rfl, rfl, rfl⟩, rfl⟩
  · split
    · exact ⟨⟨rfl, rfl, rfl⟩, rfl⟩
    · exact ⟨⟨rfl, rfl, rfl⟩, rfl⟩
    · rw [markDirty_eq]; exact ⟨⟨rfl, rfl, rfl⟩, rfl⟩
    · unfold State.capture
      split
      · exact ⟨⟨rfl, rfl, rfl⟩, rfl⟩
      · exact ⟨⟨rfl, rfl, rfl⟩, rfl⟩

theorem grantHost_op (s : State) (r : QueuedRequest) (rest : List QueuedRequest) :
    (s.grantHost r rest).port.op.isSome = true := by
  unfold State.grantHost
  simp only
  split
  · rfl
  · split <;> rfl

theorem classifyApply_kept (s : State) (line : Line) : GrantKept s (s.classifyApply line) := by
  have hrefl : GrantKept s s := ⟨rfl, rfl, rfl⟩
  unfold State.classifyApply
  split
  · split
    · exact hrefl
    · split
      · rw [markDirty_eq, suspendWindow_eq]; exact ⟨rfl, rfl, rfl⟩
      · rw [markDirty_eq]; exact ⟨rfl, rfl, rfl⟩
  · exact hrefl

theorem applyCandidate_iff (s : State) :
    s.applyCandidate = true ↔
      ∃ e rest, s.rx.applyQueue = e :: rest ∧ s.headOnPort = false ∧ s.rx.reportQueue.length < 8 ∧ e.mask ≠ 0 ∧
        ∃ w, s.owner e.target.granule = some w := by
  have hsize : Config.reportQueueSize = 8 := rfl
  unfold State.applyCandidate
  cases s.rx.applyQueue with
  | nil => simp
  | cons e rest => simp [hsize, Option.isSome_iff_exists, and_assoc]

theorem sweepCandidate_iff (s : State) :
    s.sweepCandidate = true ↔
      s.role = .source ∧ (∃ p, s.sweep.position = some p) ∧ s.sweep.inFlight = none ∧
        s.journal.entries.length ≤ 447 := by
  have hroom : s.journal.entries.length + Config.hostReserve < Config.journalSize ↔ s.journal.entries.length ≤ 447 := by
    have hreserve : Config.hostReserve = 64 := rfl
    have hjournal : Config.journalSize = 512 := rfl
    omega
  simp only [State.sweepCandidate, Bool.and_eq_true, beq_iff_eq, Option.isSome_iff_exists, Option.isNone_iff_eq_none,
    decide_eq_true_eq, hroom, and_assoc]

/-- What a grant that the arbiter makes keeps, and what it puts on the port. -/
theorem grantTo_granted {s : State} {g : Grantee} (h : s.requests g) :
    GrantKept s (s.grantTo g) ∧ (s.grantTo g).port.op.isSome = true ∧
      ((s.grantTo g).headOnPort = true ∨ (s.grantTo g).windows = s.windows) := by
  cases g with
  | host =>
    obtain ⟨r, rest, hq, -⟩ := head_of_condition h
    rw [grantTo_host hq]
    obtain ⟨hkept, hwindows⟩ := grantHost_kept s r rest
    exact ⟨hkept, grantHost_op s r rest, .inr hwindows⟩
  | sweep =>
    obtain ⟨-, hsweep⟩ := h
    obtain ⟨-, ⟨p, hp⟩, -⟩ := (sweepCandidate_iff s).1 hsweep
    rw [grantTo_sweep hp]
    exact ⟨⟨rfl, rfl, rfl⟩, rfl, .inr rfl⟩
  | apply =>
    obtain ⟨e, rest, hq, -⟩ := (applyCandidate_iff s).1 h
    obtain ⟨hrx, hlink, hrole⟩ := classifyApply_kept s e.target
    rw [grantTo_apply hq]
    exact ⟨⟨hrx, hlink, hrole⟩, rfl, .inl rfl⟩

/-! ### Nothing is due after the grant -/

/-- The choice of a frame takes nothing from the receiver of a unit whose sink transmitter has nothing to send. -/
theorem chooseFrame_rx {s : State} {probe : Bool}
    (h : s.link.lane = none → s.sinkSession →
      s.rx.reportQueue = [] ∧ s.rx.nakSlot = none ∧ s.rx.ackPending = false ∧ s.rx.replyOwed = false) :
    (s.chooseFrame probe).rx = s.rx := by
  cases hl : s.link.lane with
  | some f => rw [chooseFrame_busy probe hl]
  | none =>
    rcases sender_cases s with hin | hin | ⟨hr, hh⟩ | ⟨hr, hh⟩ | hq
    · rw [chooseFrame_source probe hl hin, State.sourceFrame]
      split
      · rfl
      · split <;> rfl
    · obtain ⟨hreport, hnak, hack, hreply⟩ := h hl hin
      rw [chooseFrame_sink probe hl hin, sinkFrame_eq_self hreport hnak hack hreply]
    · rw [chooseFrame_hailSource probe hl hr hh]
      split <;> rfl
    · rw [chooseFrame_hailSink probe hl hr hh]
      split <;> rfl
    · rw [chooseFrame_quiet probe hq]

/-- After a grant of a settled unit what follows at once takes nothing from the receiver: the lane was served before. -/
theorem settle_granted_rx {s t : State} (hs : Settled s) (h : GrantKept s t) : t.settle.rx = s.rx := by
  obtain ⟨hhail, -, hlane, -⟩ := (settled_iff s).1 hs
  have hself : t.enterHail = t := enterHail_refused (by rw [h.link, h.role]; exact hhail)
  obtain ⟨-, -, -, hrx⟩ := settle_leaves (s := t) (t := t.chooseFrame false) (by rw [hself])
  rw [hrx, chooseFrame_rx, h.rx]
  unfold State.sinkSession
  rw [h.link, h.role, h.rx]
  intro hl hin
  obtain ⟨-, hsink, -⟩ := hlane hl
  exact hsink hin

theorem headOnPort_congr {s t : State} (h : t.port.op = s.port.op) : t.headOnPort = s.headOnPort := by
  unfold State.headOnPort
  rw [h]

theorem examineDue_congr {s t : State} (hq : t.rx = s.rx) (hp : t.headOnPort = s.headOnPort)
    (hw : t.windows = s.windows) : t.examineDue = s.examineDue := by
  unfold State.examineDue State.owner
  rw [hq, hp, hw]

theorem examineDue_onPort {s : State} (h : s.headOnPort = true) : s.examineDue = false := by
  rw [← Bool.not_eq_true, examineDue_iff]
  rintro ⟨e, rest, -, hport, -⟩
  exact nomatch h.symm.trans hport

/-- An operation on the port that is not the apply head's leaves the examination as it was. -/
theorem examineDue_offPort {s t : State} (hq : t.rx = s.rx) (hop : s.port.op = none) (hw : t.windows = s.windows)
    (h : s.examineDue = false) : t.examineDue = false := by
  have hoff : s.headOnPort = false := by rw [State.headOnPort, hop]
  cases hon : t.headOnPort with
  | true => exact examineDue_onPort hon
  | false => rw [examineDue_congr hq (hon.trans hoff.symm) hw, h]

/-- After the grant of a settled unit with no examination due nothing is due at once (R69, R140). -/
theorem grantNow_ready {s : State} (hs : Settled s) (hp : s.coldPin = false) (h : s.examineDue = false) :
    Ready s.grantNow := by
  cases hgrant : s.grantDue with
  | false => rw [grantNow_none hgrant]; exact ⟨hp, h, hgrant⟩
  | true =>
    obtain ⟨hidle, hsome⟩ := Bool.and_eq_true_iff.1 hgrant
    have hop : s.port.op = none := Option.isNone_iff_eq_none.1 hidle
    obtain ⟨⟨g, n⟩, hchoice⟩ := Option.isSome_iff_exists.1 hsome
    obtain ⟨hkept, hput, hhead⟩ := grantTo_granted (arbiterChoice_requests hchoice)
    have hpin := (grantNow_aside s).coldPin_eq
    rw [grantNow_chosen hop hchoice] at hpin ⊢
    have hsame := settle_same ((s.grantTo g).withPassedOver n)
    have hrx : ((s.grantTo g).withPassedOver n).settle.rx = s.rx :=
      settle_granted_rx hs ⟨hkept.rx, hkept.link, hkept.role⟩
    refine ⟨hpin.trans hp, ?_, ?_⟩
    · rcases hhead with hhead | hwindows
      · exact examineDue_onPort ((headOnPort_congr hsame.op_eq).trans hhead)
      · exact examineDue_offPort hrx hop (hsame.windows_eq.trans hwindows) h
    · have hbusy : ((s.grantTo g).withPassedOver n).settle.port.op.isSome = true := by rw [hsame.op_eq]; exact hput
      obtain ⟨o, ho⟩ := Option.isSome_iff_exists.1 hbusy
      rw [State.grantDue, ho]
      rfl

/-- What is due at once leaves nothing due at once (R69, R140). -/
theorem prompt_leaves_ready {s : State} (hs : Settled s) (hp : s.coldPin = false) : Ready s.prompt := by
  rw [prompt_released hp]
  exact grantNow_ready (examineAll_settled _ hs) ((examineAll_aside _ s).coldPin_eq.trans hp)
    (examineAll_notDue (le_refl _))

end Sys2Proof.Machine
end

section
/-! The arbiter: its candidates, its rows, and that every command finds the grant made. -/

namespace Sys2Proof.Machine

/-! ### The rows -/

theorem internalStands_iff (s : State) :
    s.internalStands = true ↔ s.applyCandidate = true ∨ s.sweepCandidate = true := Bool.or_eq_true_iff

/-- The apply head stands, with a hazard at the host head or 40 entries queued: the first two rows (R70). -/
def State.applyUrgent (s : State) : Prop :=
  s.applyCandidate = true ∧ (s.headCondition = some .hazard ∨ 40 ≤ s.rx.applyQueue.length)

theorem arbiterChoice_urgent {s : State} (h : s.applyUrgent) : s.arbiterChoice = some (.apply, 0) := by
  obtain ⟨happly, hhazard | hlong⟩ := h
  · exact if_pos ⟨happly, hhazard⟩
  · unfold State.arbiterChoice
    split
    · rfl
    · exact if_pos ⟨happly, hlong⟩

theorem arbiterChoice_calm {s : State} (h : ¬ s.applyUrgent) :
    s.arbiterChoice =
      if s.headCondition = some .ready then
        if s.internalStands then
          if s.port.passedOver < Config.passedOverLimit then some (.host, s.port.passedOver + 1)
          else some (s.internalCandidate, 0)
        else some (.host, 0)
      else if s.internalStands then some (s.internalCandidate, 0)
      else none := by
  unfold State.arbiterChoice
  rw [if_neg fun hc => h ⟨hc.1, .inl hc.2⟩, if_neg fun hc => h ⟨hc.1, .inr hc.2⟩]

theorem arbiterChoice_host {s : State} (h : ¬ s.applyUrgent) (hhost : s.headCondition = some .ready)
    (hin : ¬ s.internalStands = true) : s.arbiterChoice = some (.host, 0) := by
  rw [arbiterChoice_calm h, if_pos hhost, if_neg hin]

theorem arbiterChoice_passes {s : State} (h : ¬ s.applyUrgent) (hhost : s.headCondition = some .ready)
    (hin : s.internalStands = true) (hn : s.port.passedOver < 4) :
    s.arbiterChoice = some (.host, s.port.passedOver + 1) := by
  rw [arbiterChoice_calm h, if_pos hhost, if_pos hin]
  exact if_pos hn

theorem arbiterChoice_yields {s : State} (h : ¬ s.applyUrgent) (hhost : s.headCondition = some .ready)
    (hin : s.internalStands = true) (hn : 4 ≤ s.port.passedOver) :
    s.arbiterChoice = some (s.internalCandidate, 0) := by
  rw [arbiterChoice_calm h, if_pos hhost, if_pos hin]
  exact if_neg (Nat.not_lt.2 hn)

theorem arbiterChoice_internal {s : State} (h : ¬ s.applyUrgent) (hhost : ¬ s.headCondition = some .ready)
    (hin : s.internalStands = true) : s.arbiterChoice = some (s.internalCandidate, 0) := by
  rw [arbiterChoice_calm h, if_neg hhost, if_pos hin]

theorem arbiterChoice_none {s : State} (hhost : ¬ s.headCondition = some .ready) (hin : ¬ s.internalStands = true) :
    s.arbiterChoice = none := by
  have hcalm : ¬ s.applyUrgent := fun h => hin ((internalStands_iff s).2 (.inl h.1))
  rw [arbiterChoice_calm hcalm, if_neg hhost, if_neg hin]

theorem internalCandidate_apply {s : State} (h : s.applyCandidate = true) : s.internalCandidate = .apply := if_pos h

theorem internalCandidate_sweep {s : State} (h : ¬ s.applyCandidate = true) : s.internalCandidate = .sweep := if_neg h

theorem grantDue_iff (s : State) :
    s.grantDue = true ↔
      s.port.op = none ∧ (s.headCondition = some .ready ∨ s.applyCandidate = true ∨ s.sweepCandidate = true) := by
  rw [State.grantDue, Bool.and_eq_true, Option.isNone_iff_eq_none, ← internalStands_iff, and_congr_right_iff]
  intro _
  by_cases hurgent : s.applyUrgent
  · have hin : s.internalStands = true := (internalStands_iff s).2 (.inl hurgent.1)
    rw [arbiterChoice_urgent hurgent]
    exact iff_of_true rfl (.inr hin)
  · rw [arbiterChoice_calm hurgent]
    by_cases hhost : s.headCondition = some .ready
    · rw [if_pos hhost]
      refine iff_of_true ?_ (.inl hhost)
      split
      · split <;> rfl
      · rfl
    · by_cases hin : s.internalStands = true
      · rw [if_neg hhost, if_pos hin]
        exact iff_of_true rfl (.inr hin)
      · rw [if_neg hhost, if_neg hin]
        exact iff_of_false nofun (not_or.2 ⟨hhost, hin⟩)

/-! ### PORT_GRANT -/

theorem exec_portGrant (s : State) : exec .portGrant s = .next s.prompt := rfl

theorem portGrant_chosen {s : State} {g : Grantee} {n : Nat} (hp : s.coldPin = false) (he : s.examineDue = false)
    (hop : s.port.op = none) (h : s.arbiterChoice = some (g, n)) :
    exec .portGrant s = .next ((s.grantTo g).withPassedOver n).settle := by
  rw [exec_portGrant, prompt_examined hp he, grantNow_chosen hop h]

theorem portGrant_none {s : State} (hp : s.coldPin = false) (he : s.examineDue = false)
    (h : s.grantDue = false) : exec .portGrant s = .next s := by
  rw [exec_portGrant, prompt_examined hp he, grantNow_none h]

/-! ### Every command finds the grant made -/

theorem take_prompt {s : State} (f : State → State) (hp : s.coldPin = false) (h : Ready s.prompt) :
    s.take f = s.prompt.take f := by
  rw [take_released f hp, take_ready f h]

/-- A command comes after everything that is due at once (R69, R140). -/
theorem exec_prompt {s : State} (hp : s.coldPin = false) (h : Ready s.prompt) (c : Instr) (hc : c ≠ .applyHeadExamine) :
    exec c s = exec c s.prompt := by
  have hstill : s.prompt.prompt = s.prompt := prompt_ready h
  have htake (f : State → State) :
      (.next (s.take f) : Host.Outcome State Fault Refusal) = .next (s.prompt.take f) :=
    congrArg Host.Outcome.next (take_prompt f hp h)
  cases c with
  | applyHeadExamine => exact absurd rfl hc
  | portGrant => rw [exec_portGrant, exec_portGrant, hstill]
  | hostPortReset =>
    change execHostPortReset s = execHostPortReset s.prompt
    rw [execHostPortReset, execHostPortReset, hp, h.1, hstill, (prompt_aside s).resetLine_eq]
    rfl
  | hostPortResetRelease =>
    change execHostPortResetRelease s = execHostPortResetRelease s.prompt
    rw [execHostPortResetRelease, execHostPortResetRelease, hstill]
  | coldReset edge =>
    cases edge with
    | asserted => rw [exec_coldReset_asserted, exec_coldReset_asserted, hstill]
    | released signal => rw [exec_coldReset_released signal hp, exec_coldReset_released signal h.1, hstill]
  | _ => exact htake _

/-- Settles O29, by the rows of the arbiter, and by the unit being ready after what is due at once. -/
theorem arbiterGrantsByItsRows : Obligations.ArbiterGrantsByItsRows := by
  unfold Obligations.ArbiterGrantsByItsRows
  refine ⟨fun s => ⟨applyCandidate_iff s, sweepCandidate_iff s⟩, fun s => ⟨grantDue_iff s, examineDue_iff s,
    prompt_ready, fun hp => ⟨exec_portGrant s, fun he => ?_, fun hs => ?_⟩⟩, fun s hp he => ?_⟩
  · exact ⟨s.examineNow, congrArg Host.Outcome.next (unlessHeld_released _ hp), prompt_examineNow hp he⟩
  · have hready := prompt_leaves_ready hs hp
    exact ⟨hready, exec_prompt hp hready⟩
  · intro apply internal host urgent
    have hin : s.internalStands = true ↔ internal := internalStands_iff s
    have hurgent : s.applyUrgent ↔ urgent := Iff.rfl
    simp only [← hin, ← hurgent]
    refine ⟨fun hop => ?_, fun hop => ?_⟩
    · refine portGrant_none hp he ?_
      rw [← Bool.not_eq_true, grantDue_iff]
      exact fun hdue => hop hdue.1
    have hchosen {g : Grantee} {n : Nat} := portGrant_chosen (g := g) (n := n) hp he hop
    refine ⟨fun hu => hchosen (arbiterChoice_urgent hu), fun hu hh hi => hchosen (arbiterChoice_host hu hh hi),
      fun hu hh hi hn => hchosen (arbiterChoice_passes hu hh hi hn), fun hu hh hi hn ha => ?_, fun hu hh hi hn ha => ?_,
      fun hu hh hi ha => ?_, fun hu hh hi ha => ?_, fun hh hi => ?_⟩
    · rw [hchosen (arbiterChoice_yields hu hh hi hn), internalCandidate_apply ha]
    · rw [hchosen (arbiterChoice_yields hu hh hi hn), internalCandidate_sweep ha]
    · rw [hchosen (arbiterChoice_internal hu hh hi), internalCandidate_apply ha]
    · rw [hchosen (arbiterChoice_internal hu hh hi), internalCandidate_sweep ha]
    · refine portGrant_none hp he ?_
      rw [State.grantDue, arbiterChoice_none hh hi]
      exact Bool.and_false _

end Sys2Proof.Machine
end

section
/-! Each tag in one place: what the tags' invariant says of the lists that hold tags, and what each change of them keeps. -/

namespace Sys2Proof.Machine

/-! ### Lists that hold tags -/

/-- The held tags of the journal's entries, each with its entry's sequence (R20, R52). -/
def heldPairs (l : List JournalEntry) : List (Tag × Seq) := l.flatMap fun e => e.heldTags.map fun t => (t, e.seq)

/-- The tags' invariant in the terms of the tags in the host queue and on the port, the held-write table, the set of tags
in use and the held-tag lists (R45, R52). -/
structure Placed (queue port : List Tag) (held : List HeldRecord) (tags : List Tag) (pairs : List (Tag × Seq)) : Prop where
  sorted : tags.Pairwise (· < ·)
  places : (queue ++ port ++ held.map HeldRecord.tag).Perm tags
  table : pairs.Perm (held.map fun r => (r.tag, r.seq))

theorem tagInv_iff (s : State) :
    TagInv s ↔ Placed s.queueTags s.portTags s.host.held s.host.tags (heldPairs s.journal.entries) :=
  ⟨fun ⟨hsorted, hplaces, htable⟩ => ⟨hsorted, hplaces, htable⟩,
    fun ⟨hsorted, hplaces, htable⟩ => ⟨hsorted, hplaces, htable⟩⟩

theorem Placed.nil : Placed [] [] [] [] [] := ⟨.nil, .nil, .nil⟩

theorem Placed.nodup {queue port tags : List Tag} {held : List HeldRecord} {pairs : List (Tag × Seq)}
    (h : Placed queue port held tags pairs) : tags.Nodup := h.sorted.imp fun hlt => ne_of_lt hlt

/-- With `gone` taken off a list without repetition the rest is left. -/
theorem perm_filter_rest {gone rest tags : List Tag} (hn : tags.Nodup) (h : (gone ++ rest).Perm tags) :
    rest.Perm (tags.filter fun t => t ∉ gone) := by
  have hsplit := h.nodup_iff.2 hn
  obtain ⟨-, -, hapart⟩ := List.nodup_append.1 hsplit
  have hgone : gone.filter (fun t => t ∉ gone) = [] := List.filter_eq_nil_iff.2 fun t ht => by simpa using ht
  have hrest : rest.filter (fun t => t ∉ gone) = rest :=
    List.filter_eq_self.2 fun t ht => by simpa using fun hg => hapart t hg t ht rfl
  have hfilter := h.filter fun t => t ∉ gone
  rwa [List.filter_append, hgone, hrest, List.nil_append] at hfilter

/-- Tags leave the places they are in, and with them the set of tags in use (R43, R44). -/
theorem Placed.left {queue port tags queue' port' gone : List Tag} {held held' : List HeldRecord}
    {pairs pairs' : List (Tag × Seq)} (h : Placed queue port held tags pairs)
    (hgone : (gone ++ (queue' ++ port' ++ held'.map HeldRecord.tag)).Perm (queue ++ port ++ held.map HeldRecord.tag))
    (htable : pairs'.Perm (held'.map fun r => (r.tag, r.seq))) :
    Placed queue' port' held' (tags.filter fun t => t ∉ gone) pairs' :=
  ⟨h.sorted.filter _, perm_filter_rest h.nodup (hgone.trans h.places), htable⟩

/-- The tag at the head of the queue leaves (R47). -/
theorem Placed.headLeft {t : Tag} {queue port tags : List Tag} {held : List HeldRecord} {pairs : List (Tag × Seq)}
    (h : Placed (t :: queue) port held tags pairs) : Placed queue port held (tags.filter fun x => x ∉ [t]) pairs :=
  h.left (.refl _) h.table

/-- The tag on the port leaves (R65). -/
theorem Placed.portLeft {t : Tag} {queue tags : List Tag} {held : List HeldRecord} {pairs : List (Tag × Seq)}
    (h : Placed queue [t] held tags pairs) : Placed queue [] held (tags.filter fun x => x ∉ [t]) pairs := by
  refine h.left ?_ h.table
  simpa using (List.perm_middle (a := t) (l₁ := queue) (l₂ := held.map HeldRecord.tag)).symm

theorem map_pairs (held : List HeldRecord) :
    (held.map fun r => (r.tag, r.seq)).map Prod.fst = held.map HeldRecord.tag := by
  rw [List.map_map]
  rfl

/-- Held tags leave the held-tag lists and the held-write table together (R35, R39, R54). -/
theorem Placed.heldLeft {queue port tags : List Tag} {held : List HeldRecord} {gone pairs pairs' : List (Tag × Seq)}
    (h : Placed queue port held tags pairs) (hgone : pairs.Perm (gone ++ pairs')) :
    Placed queue port (held.filter fun r => r.tag ∉ gone.map Prod.fst) (tags.filter fun t => t ∉ gone.map Prod.fst)
      pairs' := by
  have hheld : (gone ++ pairs').Perm (held.map fun r => (r.tag, r.seq)) := hgone.symm.trans h.table
  have htags : (gone.map Prod.fst ++ pairs'.map Prod.fst).Perm (held.map HeldRecord.tag) := by
    rw [← List.map_append, ← map_pairs]
    exact hheld.map _
  have hn : (gone.map Prod.fst ++ pairs'.map Prod.fst).Nodup :=
    htags.nodup_iff.2 ((List.nodup_append.1 (h.places.nodup_iff.2 h.nodup)).2.1)
  obtain ⟨-, -, hapart⟩ := List.nodup_append.1 hn
  have htable : pairs'.Perm ((held.filter fun r => r.tag ∉ gone.map Prod.fst).map fun r => (r.tag, r.seq)) := by
    have hfilter := hheld.filter fun x => x.1 ∉ gone.map Prod.fst
    have hgone' : gone.filter (fun x => x.1 ∉ gone.map Prod.fst) = [] :=
      List.filter_eq_nil_iff.2 fun x hx => by simpa using ⟨x.2, hx⟩
    have hrest : pairs'.filter (fun x => x.1 ∉ gone.map Prod.fst) = pairs' :=
      List.filter_eq_self.2 fun x hx => by
        simpa using fun (q : Seq) (hq : (x.1, q) ∈ gone) =>
          hapart x.1 (List.mem_map.2 ⟨_, hq, rfl⟩) x.1 (List.mem_map_of_mem hx) rfl
    rw [List.filter_append, hgone', hrest, List.nil_append, List.filter_map] at hfilter
    exact hfilter
  have hleft : (pairs'.map Prod.fst).Perm
      ((held.filter fun r => r.tag ∉ gone.map Prod.fst).map HeldRecord.tag) := by
    rw [← map_pairs]
    exact htable.map _
  refine h.left ?_ htable
  calc gone.map Prod.fst ++ (queue ++ port ++ (held.filter fun r => r.tag ∉ gone.map Prod.fst).map HeldRecord.tag)
      _ |>.Perm (queue ++ port ++ (gone.map Prod.fst ++ pairs'.map Prod.fst)) := by
        rw [← List.append_assoc, ← List.append_assoc (queue ++ port)]
        exact List.perm_append_comm.append hleft.symm
      _ |>.Perm (queue ++ port ++ held.map HeldRecord.tag) := htags.append_left _

theorem perm_insertBy {tag : Tag} {l : List Tag} (h : tag ∉ l) : (insertBy Fin.val tag l).Perm (tag :: l) := by
  induction l with
  | nil => exact .refl _
  | cons x l ih =>
    have hne : tag.val ≠ x.val := fun hv => h (List.mem_cons.2 (.inl (Fin.ext hv)))
    unfold insertBy
    rw [if_neg hne]
    split
    · exact .refl _
    · exact ((ih fun hl => h (List.mem_cons_of_mem x hl)).cons x).trans (.swap _ _ _)

theorem insertBy_rising {tag : Tag} {l : List Tag} (h : tag ∉ l) (hl : l.Pairwise (· < ·)) :
    (insertBy Fin.val tag l).Pairwise (· < ·) := by
  induction l with
  | nil => exact List.pairwise_singleton _ _
  | cons x l ih =>
    obtain ⟨hx, hl'⟩ := List.pairwise_cons.1 hl
    have hne : tag.val ≠ x.val := fun hv => h (List.mem_cons.2 (.inl (Fin.ext hv)))
    have hnot : tag ∉ l := fun hm => h (List.mem_cons_of_mem x hm)
    unfold insertBy
    rw [if_neg hne]
    split
    · rename_i hlt
      exact List.pairwise_cons.2 ⟨List.forall_mem_cons.2 ⟨hlt, fun y hy => lt_trans hlt (hx y hy)⟩, hl⟩
    · rename_i hge
      have hxt : x < tag := lt_of_le_of_ne (Nat.le_of_not_lt hge) fun he => hne (congrArg Fin.val he.symm)
      refine List.pairwise_cons.2 ⟨fun y hy => ?_, ih hnot hl'⟩
      rcases List.mem_cons.1 ((perm_insertBy hnot).mem_iff.1 hy) with rfl | hy
      · exact hxt
      · exact hx y hy

/-- A free tag comes into use with its request at the tail of the queue (R43). -/
theorem Placed.joined {queue port tags : List Tag} {held : List HeldRecord} {pairs : List (Tag × Seq)} {t : Tag}
    (h : Placed queue port held tags pairs) (ht : t ∉ tags) :
    Placed (queue ++ [t]) port held (insertBy Fin.val t tags) pairs := by
  refine ⟨insertBy_rising ht h.sorted, ?_, h.table⟩
  calc queue ++ [t] ++ port ++ held.map HeldRecord.tag
      _ |>.Perm (t :: (queue ++ port ++ held.map HeldRecord.tag)) := by
        simp
      _ |>.Perm (t :: tags) := h.places.cons t
      _ |>.Perm (insertBy Fin.val t tags) := (perm_insertBy ht).symm

/-- The tag of the head passes from the queue to the idle port (R72). -/
theorem Placed.granted {t : Tag} {queue tags : List Tag} {held : List HeldRecord} {pairs : List (Tag × Seq)}
    (h : Placed (t :: queue) [] held tags pairs) : Placed queue [t] held tags pairs := by
  refine ⟨h.sorted, .trans ?_ h.places, h.table⟩
  simp

/-- The tag of a held write passes from the port to the held-write table and to its entry's held-tag list (R28, R51). -/
theorem Placed.committed {queue tags : List Tag} {held : List HeldRecord} {pairs pairs' : List (Tag × Seq)}
    {r : HeldRecord} (h : Placed queue [r.tag] held tags pairs) (hp : pairs'.Perm (pairs ++ [(r.tag, r.seq)])) :
    Placed queue [] (held ++ [r]) tags pairs' := by
  refine ⟨h.sorted, .trans ?_ h.places, hp.trans ?_⟩
  · simp only [List.map_append, List.map_singleton, List.append_nil, List.append_assoc]
    exact List.perm_append_comm.append_left queue
  · simpa using h.table.append_right [(r.tag, r.seq)]

/-! ### The held-tag lists of the journal -/

theorem heldPairs_congr {l l' : List JournalEntry}
    (h : l'.map (fun e => (e.heldTags, e.seq)) = l.map fun e => (e.heldTags, e.seq)) : heldPairs l' = heldPairs l := by
  have hflat (l : List JournalEntry) :
      heldPairs l = (l.map fun e => (e.heldTags, e.seq)).flatMap fun x => x.1.map fun t => (t, x.2) := by
    rw [List.flatMap_map]
    rfl
  rw [hflat, hflat, h]

/-- Entries changed one by one, but neither in their held tags nor in their sequence. -/
theorem heldPairs_map {f : JournalEntry → JournalEntry} (hf : ∀ e, (f e).heldTags = e.heldTags ∧ (f e).seq = e.seq)
    (l : List JournalEntry) : heldPairs (l.map f) = heldPairs l := by
  refine heldPairs_congr ?_
  rw [List.map_map]
  exact List.map_congr_left fun e _ => Prod.ext (hf e).1 (hf e).2

theorem heldPairs_cons (e : JournalEntry) (l : List JournalEntry) :
    heldPairs (e :: l) = (e.heldTags.map fun t => (t, e.seq)) ++ heldPairs l := List.flatMap_cons

theorem heldPairs_append (l m : List JournalEntry) : heldPairs (l ++ m) = heldPairs l ++ heldPairs m :=
  List.flatMap_append

theorem heldPairs_untagged {e : JournalEntry} (h : e.heldTags = []) (l : List JournalEntry) :
    heldPairs (l ++ [e]) = heldPairs l := by
  rw [heldPairs_append, heldPairs_cons, h]
  exact List.append_nil _

theorem heldPairs_fst (l : List JournalEntry) : (heldPairs l).map Prod.fst = l.flatMap (·.heldTags) := by
  rw [heldPairs, List.map_flatMap]
  refine congrArg (List.flatMap · l) (funext fun e => ?_)
  rw [List.map_map]
  exact List.map_id _

theorem entry_fst (e : JournalEntry) : (e.heldTags.map fun t => (t, e.seq)).map Prod.fst = e.heldTags := by
  rw [List.map_map]
  exact List.map_id _

/-- Releasing a tag takes its pair off the held-tag lists (R37). -/
theorem heldPairs_released (q : Seq) (tag : Tag) (l : List JournalEntry) :
    heldPairs (l.map fun e => if e.seq = q then { e with heldTags := e.heldTags.filter (· != tag) } else e) =
      (heldPairs l).filter (· != (tag, q)) := by
  induction l with
  | nil => rfl
  | cons e l ih =>
    rw [List.map_cons, heldPairs_cons, heldPairs_cons, List.filter_append, ih]
    congr 1
    split
    · rename_i he
      rw [List.filter_map]
      refine congrArg (List.map _) (List.filter_congr fun x _ => ?_)
      rw [Function.comp, he, Bool.eq_iff_iff]
      simp
    · rename_i he
      refine (List.filter_eq_self.2 fun x hx => ?_).symm
      obtain ⟨t, -, rfl⟩ := List.mem_map.1 hx
      simp [he]

/-- Only the tail of a journal in order can be open, and closing it gives its tag a place on its list (R28). -/
theorem heldPairs_closed {l : List JournalEntry} (htail : ∀ e ∈ l.dropLast, e.isOpen = false) {q : Seq}
    (h : l.any (·.carries q) = true) (ok : Bool) (tag : Option Tag) :
    heldPairs (l.map fun e => if e.carries q then e.close ok tag else e) =
      heldPairs l ++ tag.toList.map fun t => (t, q) := by
  obtain ⟨e, he, hc⟩ := List.any_eq_true.1 h
  obtain ⟨hseq, hopen⟩ := Bool.and_eq_true_iff.1 hc
  have hsplit := List.dropLast_append_getLast (List.ne_nil_of_mem he)
  generalize l.dropLast = front at hsplit htail
  generalize l.getLast (List.ne_nil_of_mem he) = last at hsplit
  subst hsplit
  have hfront : (front.map fun e => if e.carries q then e.close ok tag else e) = front := by
    refine (List.map_congr_left fun x hx => ?_).trans (List.map_id _)
    exact if_neg fun hx' => nomatch (htail x hx).symm.trans (Bool.and_eq_true_iff.1 hx').2
  have hlast : e = last := (List.mem_append.1 he).elim (fun hf => nomatch (htail e hf).symm.trans hopen)
    List.mem_singleton.1
  subst hlast
  rw [List.map_append, hfront, List.map_singleton, if_pos hc, heldPairs_append, heldPairs_append, List.append_assoc]
  congr 1
  simp [heldPairs, JournalEntry.close, eq_of_beq hseq]

/-- Closing an entry that gets no tag changes no held-tag list (R28). -/
theorem heldPairs_closed_untagged (l : List JournalEntry) (q : Seq) (ok : Bool) :
    heldPairs (l.map fun e => if e.carries q then e.close ok none else e) = heldPairs l := by
  refine heldPairs_map (fun e => ?_) l
  split
  · exact ⟨List.append_nil _, rfl⟩
  · exact ⟨rfl, rfl⟩

end Sys2Proof.Machine
end

section
/-! The operations of the block keep each tag in one place. -/

namespace Sys2Proof.Machine

/-- `t` has each tag in one place if `s` has. -/
def KeepsTags (s t : State) : Prop := TagInv s → TagInv t

theorem KeepsTags.trans {s t u : State} (h : KeepsTags s t) (k : KeepsTags t u) : KeepsTags s u := fun hs => k (h hs)

theorem keepsTags_ite {c : Prop} [Decidable c] {s a b : State} (ha : c → KeepsTags s a) (hb : ¬ c → KeepsTags s b) :
    KeepsTags s (if c then a else b) := by
  split
  · exact ha ‹_›
  · exact hb ‹_›

theorem keepsTags_ite_self {c : Prop} [Decidable c] {s t u : State} (h : KeepsTags s t) (hu : c → KeepsTags t u) :
    KeepsTags s (if c then u else t) :=
  keepsTags_ite (fun hc => h.trans (hu hc)) fun _ => h

theorem foldl_tags {α : Type} (f : State → α → State) (hf : ∀ s a, KeepsTags s (f s a)) (l : List α) (s : State) :
    KeepsTags s (l.foldl f s) := by
  induction l generalizing s with
  | nil => exact id
  | cons a l ih => exact (hf s a).trans (ih _)

/-! ### What leaves every tag where it is -/

/-- The tags are read from the Host Port, the operation on the port and the held-tag lists. -/
theorem keepsTags_of_same {s t : State} (hhost : t.host = s.host) (hport : t.portTags = s.portTags)
    (hpairs : heldPairs t.journal.entries = heldPairs s.journal.entries) : KeepsTags s t := by
  have hqueue : t.queueTags = s.queueTags := congrArg (fun h : HostPort => h.queue.map QueuedRequest.tag) hhost
  unfold KeepsTags
  rw [tagInv_iff, tagInv_iff, hqueue, hhost, hport, hpairs]
  exact id

theorem portTags_congr {s t : State} (h : t.port.op = s.port.op) : t.portTags = s.portTags := by
  unfold State.portTags
  rw [h]

theorem portTags_idle {s : State} (h : s.port.op = none) : s.portTags = [] := by
  unfold State.portTags
  rw [h]

theorem portTags_host {s : State} {o : Operation} {tag : Option Tag} {grant : HostGrant} (ho : s.port.op = some o)
    (hw : o.owner = .host tag grant) : s.portTags = tag.toList := by
  obtain ⟨line, access, owner⟩ := o
  subst hw
  unfold State.portTags
  rw [ho]
  cases tag <;> rfl

theorem SameJournal.keepsTags {s t : State} (h : SameJournal s t) (hhost : t.host = s.host) : KeepsTags s t :=
  keepsTags_of_same hhost (portTags_congr h.op) (by rw [h.entries])

theorem SameButSettled.heldPairs_eq {u t : State} (h : SameButSettled u t) :
    heldPairs t.journal.entries = heldPairs u.journal.entries := by
  obtain ⟨-, -, -, -, -, -, -, -, -, -, -, -, -, -, -, -, -, -, -, -, -, -, -, -, -, he⟩ := h
  have hmap (l : List JournalEntry) : heldPairs (l.map fun e => { e with sent := false, everSent := false }) = heldPairs l :=
    heldPairs_map (fun _ => by exact ⟨rfl, rfl⟩) l
  exact (hmap _).symm.trans ((congrArg heldPairs he).trans (hmap _))

theorem SameButSettled.keepsTags {u t : State} (h : SameButSettled u t) (hhost : t.host = u.host) : KeepsTags u t :=
  keepsTags_of_same hhost (portTags_congr h.op_eq) h.heldPairs_eq

theorem mapEntries_tags (s : State) {f : JournalEntry → JournalEntry}
    (hf : ∀ e, (f e).heldTags = e.heldTags ∧ (f e).seq = e.seq) :
    KeepsTags s (s.withEntries (s.journal.entries.map f)) :=
  keepsTags_of_same rfl rfl (heldPairs_map hf _)

theorem withDirty_tags (s : State) (x : List Nat) : KeepsTags s (s.withDirty x) := id
theorem withSweep_tags (s : State) (x : SweepEngine) : KeepsTags s (s.withSweep x) := id
theorem withService_tags (s : State) (x : Service) : KeepsTags s (s.withService x) := id
theorem withLink_tags (s : State) (x : Link) : KeepsTags s (s.withLink x) := id
theorem withSeq_tags (s : State) (x : Sequencer) : KeepsTags s (s.withSeq x) := id
theorem withRx_tags (s : State) (x : Receiver) : KeepsTags s (s.withRx x) := id
theorem withWindows_tags (s : State) (x : Vector Window 16) : KeepsTags s (s.withWindows x) := id
theorem offerFault_tags (s : State) (k : FaultKind) (w : Option WinIdx) (l : Option Line) (q : Option Seq)
    (e : Option Epoch) : KeepsTags s (s.offerFault k w l q e) := id
theorem reply_tags (s : State) (echo code : Byte) (st : ServiceStatus) (r : Reason) (l : List Byte) :
    KeepsTags s (s.reply echo code st r l) := id
theorem replyDone_tags (s : State) (echo code : Byte) (l : List Byte) : KeepsTags s (s.replyDone echo code l) := id
theorem refuse_tags (s : State) (echo code : Byte) (r : Reason) : KeepsTags s (s.refuse echo code r) := id

theorem suspendWhere_tags (s : State) (p : Window → Bool) (cause : SuspendCause) :
    KeepsTags s (s.suspendWhere p cause) := by
  rw [suspendWhere_eq]; exact id

theorem suspendWindow_tags (s : State) (w : WinIdx) (cause : SuspendCause) : KeepsTags s (s.suspendWindow w cause) := by
  rw [suspendWindow_eq]; exact id

theorem markDirty_tags (s : State) (w : WinIdx) (g : Nat) : KeepsTags s (s.markDirty w g) := by
  rw [markDirty_eq]; exact withDirty_tags s _

theorem markWindow_tags (s : State) (w : WinIdx) : KeepsTags s (s.markWindow w) := by
  rw [markWindow_eq]; exact withDirty_tags s _

theorem markAll_tags (s : State) : KeepsTags s s.markAll := by
  rw [markAll_eq]; exact withDirty_tags s _

theorem sweepTest_tags (s : State) (w : WinIdx) : KeepsTags s (s.sweepTest w) :=
  keepsTags_ite (fun _ => id) fun _ => id

theorem finishEntry_tags (s : State) (e : ApplyEntry) (how : Finish) : KeepsTags s (s.finishEntry e how) := by
  rw [finishEntry_eq]; exact id

theorem examine_tags (s : State) : KeepsTags s s.examine := by
  have hfrom (l : List ApplyEntry) (s : State) : KeepsTags s (State.examineFrom l s) := by
    induction l generalizing s with
    | nil => exact id
    | cons e l ih =>
      unfold State.examineFrom
      refine keepsTags_ite (fun _ => id) fun _ => keepsTags_ite (fun _ => (finishEntry_tags s e _).trans (ih _)) fun _ => ?_
      split
      · exact id
      · exact (finishEntry_tags s e _).trans (ih _)
  exact hfrom _ s

/-! ### What comes about at once -/

theorem answer_eq (s : State) (tag : Tag) (status : HostStatus) (data : Option ReadData) :
    s.answer tag status data =
      s.withHost
        { s.host with
          tags := s.host.tags.filter fun t => t ∉ [tag]
          responses := s.host.responses ++ [{ tag := tag, status := status, data := data }] } := by
  unfold State.answer
  simp only [bne_eq_decide, List.mem_singleton]

/-- The requests answered at the head take their tags with them (R47). -/
theorem answerHeads_tags (l : List QueuedRequest) (s : State)
    (h : Placed (l.map QueuedRequest.tag) s.portTags s.host.held s.host.tags (heldPairs s.journal.entries)) :
    TagInv (State.answerHeads l s) := by
  induction l generalizing s with
  | nil => exact (tagInv_iff _).2 h
  | cons r l ih =>
    unfold State.answerHeads
    split
    · refine ih _ ?_
      rw [answer_eq]
      exact h.headLeft
    all_goals exact (tagInv_iff _).2 h

theorem settleWith_tags (s : State) (probe : Bool) : KeepsTags s (s.settleWith probe) := by
  intro hs
  have hheads : TagInv (State.answerHeads s.enterHail.host.queue s.enterHail) := by
    refine answerHeads_tags _ _ ?_
    rw [enterHail_eq]
    exact (tagInv_iff s).1 hs
  refine SameButSettled.keepsTags (u := State.answerHeads s.enterHail.host.queue s.enterHail) ?_ ?_ hheads
  · exact (chooseFrame_same _ _).trans ((timeStall_same _).trans ((choosePosition_same _).trans (clearPassedOver_same _)))
  · rw [settleWith_framed, clearPassedOver_host, choosePosition_host, timeStall_host]
    exact chooseFrame_host _ _

theorem settle_tags (s : State) : KeepsTags s s.settle := settleWith_tags s false

/-- An effect that keeps the tags, settled and answered DONE. -/
theorem settleDone_tags {s t : State} (echo code : Byte) (l : List Byte) (h : KeepsTags s t) :
    KeepsTags s (t.settle.replyDone echo code l) := h.trans (settle_tags t)

/-! ### Link loss and role changes -/

/-- Discard answers every held tag (R39, R55). -/
theorem discard_tags (s : State) : KeepsTags s s.discard := by
  intro hs
  have hpairs : (heldPairs s.journal.entries).Perm (heldPairs s.journal.entries ++ []) := by rw [List.append_nil]
  have hleft := ((tagInv_iff s).1 hs).heldLeft hpairs
  rw [heldPairs_fst] at hleft
  rw [discard_eq, answerTags_eq]
  exact (tagInv_iff _).2 hleft

theorem convert_tags (s : State) : KeepsTags s s.convert := by
  rw [convert_eq]; exact discard_tags s

theorem linkLoss_tags (s : State) (cause : SuspendCause) : KeepsTags s (s.linkLoss cause) := by
  unfold State.linkLoss
  refine keepsTags_ite (fun _ => ?_) fun _ => id
  cases s.role with
  | source => exact (suspendWhere_tags (s.leaveLink.raise .linkDown) _ cause).trans (convert_tags _)
  | sink | isolated | draining => exact id

theorem linkUp_tags (s : State) : KeepsTags s s.linkUp := keepsTags_ite (fun _ => id) fun _ => id

theorem hailHello_tags (s : State) (h : Hello) : KeepsTags s (s.hailHello h) := by
  have hadopt (e : Epoch) (b : Seq) : KeepsTags s (s.adopt e b) :=
    linkUp_tags ((s.withLink { s.link with epoch := e }).withRx
      { s.rx with
        expected := b, lastApplied := b - 1, applyFaults := 0, nakOutstanding := false, nakSlot := none
        ackPending := false })
  unfold State.hailHello
  split
  · exact keepsTags_ite (fun _ => linkUp_tags s) fun _ => id
  · exact id
  · exact keepsTags_ite (fun _ => hadopt _ _) fun _ => id
  all_goals exact id

theorem changeRole_tags (s : State) (new : Role) : KeepsTags s (s.changeRole new) := by
  have hconv (t : State) (h : KeepsTags s t) :
      KeepsTags s (if s.role = .source ∧ new = .isolated then t.convert else t) :=
    keepsTags_ite_self h fun _ => convert_tags t
  have hlink : KeepsTags s (s.roleLink new) := by
    unfold State.roleLink
    cases s.link.state with
    | up => exact hconv _ (linkLoss_tags s .role)
    | hail | clash => exact hconv s.leaveLink id
    | down => exact hconv s id
  have hwindows (u : State) (old : Role) : KeepsTags u (u.roleWindows old new) :=
    keepsTags_ite (fun _ => suspendWhere_tags u _ _) fun _ => keepsTags_ite (fun _ => suspendWhere_tags u _ _) fun _ => id
  have hdirty (u : State) (old : Role) : KeepsTags u (u.roleDirty old new) :=
    keepsTags_ite (fun _ => id) fun _ => keepsTags_ite (fun _ => markAll_tags u) fun _ => id
  exact hlink.trans ((hwindows ((s.roleLink new).withRole new) s.role).trans
    ((hdirty _ s.role).trans ((withService_tags _ _).trans (settle_tags _))))

theorem drainCheck_tags (s : State) : KeepsTags s s.drainCheck :=
  keepsTags_ite (fun _ => changeRole_tags s .source) fun _ => id

theorem portTags_overtake {s t : State} (h : t.port.op = s.port.op.map Operation.overtake) : t.portTags = s.portTags := by
  unfold State.portTags
  rw [h]
  rcases s.port.op with _ | ⟨line, access, owner⟩
  · rfl
  · cases owner <;> rfl

/-- A warm reset discards the journal, and the host operation on the port keeps its tag (R39, R75, R181). -/
theorem warmReset_tags (s : State) : KeepsTags s s.warmReset := by
  have hblocks : KeepsTags s.discard s.warmBlocks := by
    rw [warmBlocks_eq]
    exact keepsTags_of_same rfl (portTags_overtake (by rw [discard_eq, answerTags_eq]; rfl)) rfl
  exact (discard_tags s).trans (hblocks.trans ((settle_tags _).trans (withService_tags _ _)))

theorem cold_tags (s : State) (pin : Bool) : TagInv (s.cold pin) := (tagInv_iff _).2 .nil

/-! ### Grants -/

/-- A capture opens an entry or merges into one, and puts no tag on it (R26, R27). -/
theorem capture_pairs (s : State) (w : WinIdx) (line : Line) (mask : Mask) (data : LineData) (p : Bool) :
    heldPairs (s.capture w line mask data p).journal.entries = heldPairs s.journal.entries := by
  cases hm : s.merges w line p with
  | true =>
    obtain ⟨-, -, e, hlast, -⟩ := (merges_iff s w line p).1 hm
    obtain ⟨front, hfront⟩ := List.getLast?_eq_some_iff.1 hlast
    rw [capture_merged hfront hm, hfront]
    refine (heldPairs_append _ _).trans (.trans ?_ (heldPairs_append _ _).symm)
    rfl
  | false =>
    rw [capture_appended hm]
    exact heldPairs_untagged rfl _

/-- The head goes on the idle port, and its tag with it (R72). -/
theorem headGranted_tags {s t : State} {r : QueuedRequest} {rest : List QueuedRequest} (hop : s.port.op = none)
    (hq : s.host.queue = r :: rest) (hhost : t.host = { s.host with queue := rest }) (hport : t.portTags = [r.tag])
    (hpairs : heldPairs t.journal.entries = heldPairs s.journal.entries) : KeepsTags s t := by
  intro hs
  have h := (tagInv_iff s).1 hs
  rw [State.queueTags, hq, portTags_idle hop] at h
  rw [tagInv_iff, State.queueTags, hhost, hport, hpairs]
  exact h.granted

theorem grantHost_tags {s : State} {r : QueuedRequest} {rest : List QueuedRequest} (hop : s.port.op = none)
    (hq : s.host.queue = r :: rest) : KeepsTags s (s.grantHost r rest) := by
  cases hr : r.op with
  | read =>
    unfold State.grantHost
    simp only [hr]
    exact headGranted_tags hop hq rfl rfl rfl
  | write mask data p =>
    cases hc : s.classify r.line with
    | capture w =>
      have hhost : ((s.headTaken rest).capture w r.line mask data p).host = { s.host with queue := rest } := by
        unfold State.capture; split <;> rfl
      rw [grantHost_capture hr hc]
      exact headGranted_tags hop hq hhost rfl (capture_pairs _ _ _ _ _ _)
    | pass | fence =>
      unfold State.grantHost
      simp only [hr, hc]
      exact headGranted_tags hop hq rfl rfl rfl
    | track w =>
      unfold State.grantHost
      simp only [hr, hc]
      rw [markDirty_eq]
      exact headGranted_tags hop hq rfl rfl rfl

theorem grantTo_tags {s : State} (g : Grantee) (hop : s.port.op = none) : KeepsTags s (s.grantTo g) := by
  have hidle := portTags_idle hop
  cases g with
  | host =>
    cases hq : s.host.queue with
    | nil => unfold State.grantTo; rw [hq]; exact id
    | cons r rest => rw [grantTo_host hq]; exact grantHost_tags hop hq
  | sweep =>
    cases hp : s.sweep.position with
    | none => unfold State.grantTo; rw [hp]; exact id
    | some p => rw [grantTo_sweep hp]; exact keepsTags_of_same rfl hidle.symm rfl
  | apply =>
    cases hq : s.rx.applyQueue with
    | nil => unfold State.grantTo; rw [hq]; exact id
    | cons e rest =>
      have hclass : SameJournal s (s.classifyApply e.target) ∧ (s.classifyApply e.target).host = s.host := by
        unfold State.classifyApply
        repeat' split
        · exact ⟨.refl s, rfl⟩
        · rw [markDirty_eq, suspendWindow_eq]; exact ⟨⟨rfl, rfl, rfl, rfl⟩, rfl⟩
        · rw [markDirty_eq]; exact ⟨⟨rfl, rfl, rfl, rfl⟩, rfl⟩
        · exact ⟨.refl s, rfl⟩
      rw [grantTo_apply hq, grantApply_eq]
      exact keepsTags_of_same hclass.2 hidle.symm (congrArg heldPairs hclass.1.entries)

theorem grantNow_tags (s : State) : KeepsTags s s.grantNow := by
  unfold State.grantNow
  refine keepsTags_ite (fun _ => id) fun hop => ?_
  split
  · exact id
  · rename_i g n _
    exact (grantTo_tags g (by simpa using hop)).trans (settle_tags ((s.grantTo g).withPassedOver n))

theorem examineNow_tags (s : State) : KeepsTags s s.examineNow :=
  keepsTags_ite (fun _ => (examine_tags s).trans ((drainCheck_tags _).trans (settle_tags _))) fun _ => id

theorem prompt_tags (s : State) : KeepsTags s s.prompt := by
  have hall (n : Nat) (s : State) : KeepsTags s (State.examineAll n s) := by
    induction n generalizing s with
    | zero => exact id
    | succ n ih => exact keepsTags_ite (fun _ => (examineNow_tags s).trans (ih _)) fun _ => id
  exact keepsTags_ite (fun _ => id) fun _ => (hall _ s).trans (grantNow_tags _)

end Sys2Proof.Machine
end

section
/-! Completions and timers keep each tag in one place. -/

namespace Sys2Proof.Machine

/-! ### Completions -/

/-- The host operation on the port is answered, and its tag, unless it was dropped, leaves the port (R61, R65). -/
theorem answerPort_tags {s t : State} {o : Operation} {tag : Option Tag} {grant : HostGrant} (ho : s.port.op = some o)
    (hw : o.owner = .host tag grant) (hhost : t.host = s.host) (hop : t.port.op = none)
    (hpairs : heldPairs t.journal.entries = heldPairs s.journal.entries) (st : HostStatus) (d : Option ReadData) :
    KeepsTags s (t.answerPort tag st d) := by
  intro hs
  have hport := portTags_host ho hw
  cases tag with
  | none => exact keepsTags_of_same hhost ((portTags_idle hop).trans hport.symm) hpairs hs
  | some a =>
    have h := (tagInv_iff s).1 hs
    rw [hport] at h
    rw [State.answerPort, answer_eq, hhost, tagInv_iff, State.portTags, State.withHost_port, hop,
      State.withHost_journal, hpairs]
    exact h.portLeft

/-- A captured write completes: the tag of a held write passes to its entry and the held-write table, any other is answered
(R28, R29, R50, R51). -/
theorem completeCapture_tags {s : State} {o : Operation} {tag : Option Tag} {cls : CommitClass} {q r : Seq}
    (hj : JournalInv s) (ho : s.port.op = some o) (hw : o.owner = .host tag (.capture cls r)) (poisoned : Bool)
    (c : Completion) : KeepsTags s (s.idlePort.completeCapture tag cls q poisoned c) := by
  have hclosed (ok : Bool) (st : HostStatus) :
      KeepsTags s ((s.idlePort.closeEntry q ok none).answerPort tag st none) :=
    answerPort_tags (t := s.idlePort.closeEntry q ok none) ho hw rfl rfl (heldPairs_closed_untagged _ q ok) st none
  unfold State.completeCapture
  refine keepsTags_ite (fun _ => ?_) fun _ => hclosed _ _
  cases tag with
  | none => exact hclosed true .okay
  | some a =>
    refine keepsTags_ite (fun hany hs => ?_) fun _ => ?_
    · have h := (tagInv_iff s).1 hs
      have hpairs := heldPairs_closed ((journalInv_iff s).1 hj).tail hany true (some a)
      rw [portTags_host ho hw] at h
      exact (tagInv_iff _).2 (Placed.committed (r := { tag := a, seq := q, start := s.time }) h (.of_eq hpairs))
    · exact answerPort_tags (t := s.idlePort) (tag := some a) ho hw rfl rfl rfl .unmirrored none

theorem completeHost_tags {s : State} {o : Operation} {tag : Option Tag} {grant : HostGrant} (hj : JournalInv s)
    (ho : s.port.op = some o) (hw : o.owner = .host tag grant) (c : Completion) :
    KeepsTags s (s.idlePort.completeHost o tag grant c) := by
  have hanswer (st : HostStatus) (d : Option ReadData) : KeepsTags s (s.idlePort.answerPort tag st d) :=
    answerPort_tags (t := s.idlePort) ho hw rfl rfl rfl st d
  unfold State.completeHost
  cases o.access with
  | read =>
    unfold State.completeRead
    cases c <;> exact hanswer _ _
  | write mask data poisoned =>
    cases grant with
    | capture cls q => exact completeCapture_tags hj ho hw poisoned c
    | read | pass | track => exact hanswer _ _

theorem completeSweep_tags (s : State) (w : WinIdx) (line : Line) (current : Bool) (c : Completion) :
    KeepsTags s (s.completeSweep w line current c) := by
  have hfault : KeepsTags s (if completionOk c then s else s.offerFault .memoryError (some w) (some line) none none) :=
    keepsTags_ite (fun _ => id) fun _ => offerFault_tags s _ _ _ _ _
  have happend (t : State) (e : JournalEntry) (he : e.heldTags = []) :
      KeepsTags t (t.withJournal (t.journal.append e)) :=
    keepsTags_of_same rfl rfl (heldPairs_untagged (e := { e with seq := t.journal.nextSeq }) he _)
  have hadvance (t : State) : KeepsTags t (t.advanceSweep w) := by
    unfold State.advanceSweep
    split
    · exact id
    · exact keepsTags_ite (fun _ => (withDirty_tags t _).trans ((withSweep_tags _ _).trans (sweepTest_tags _ w))) fun _ => id
  unfold State.completeSweep
  refine keepsTags_ite (fun _ => hfault.trans ?_) fun _ => hfault
  exact (happend _ (s.sweepEntry w line c) rfl).trans (keepsTags_ite (fun _ => hadvance _) fun _ => id)

/-- The operation on the port completes: the port becomes idle and the owner acts (R65). -/
theorem completeFor_tags {s : State} {o : Operation} (hj : JournalInv s) (ho : s.port.op = some o) (c : Completion) :
    KeepsTags s (s.idlePort.completeFor o c) := by
  have hidle (hport : s.portTags = []) : KeepsTags s s.idlePort := keepsTags_of_same rfl hport.symm rfl
  unfold State.completeFor
  cases hw : o.owner with
  | host tag grant => exact completeHost_tags hj ho hw c
  | sweep w discarded =>
    refine (hidle ?_).trans (keepsTags_ite (fun _ => id) fun _ => (withSweep_tags _ _).trans (completeSweep_tags _ _ _ _ c))
    rw [State.portTags, ho]
    obtain ⟨line, access, owner⟩ := o
    subst hw
    rfl
  | apply e window discarded =>
    refine (hidle ?_).trans (keepsTags_ite (fun _ => id) fun _ =>
      (finishEntry_tags _ e _).trans ((examine_tags _).trans (drainCheck_tags _)))
    rw [State.portTags, ho]
    obtain ⟨line, access, owner⟩ := o
    subst hw
    rfl

/-! ### Timers -/

theorem overflowSuspend_tags (s : State) (w : WinIdx) (line : Line) : KeepsTags s (s.overflowSuspend w line) := by
  rw [overflowSuspend_eq]
  exact (suspendWhere_tags s _ _).trans (withService_tags _ _)

theorem expireStall_tags (s : State) : KeepsTags s s.expireStall := by
  refine keepsTags_ite (fun _ => ?_) fun _ => id
  split
  · exact id
  · split
    · exact (overflowSuspend_tags s _ _).trans (settle_tags _)
    all_goals exact id

/-- The tag of an expired record leaves the table and the list of its entry, and is free (R37, R54). -/
theorem releaseHeld_tags {s : State} {r : HeldRecord} (hr : r ∈ s.host.held) :
    KeepsTags s ((s.answerHeld r.tag .unmirrored).releaseTag r.seq r.tag) := by
  intro hs
  have h := (tagInv_iff s).1 hs
  have hn : (heldPairs s.journal.entries).Nodup := by
    have htags := (List.nodup_append.1 (h.places.nodup_iff.2 h.nodup)).2.1
    rw [h.table.nodup_iff]
    exact List.Nodup.of_map Prod.fst (by rwa [map_pairs])
  have hmem : (r.tag, r.seq) ∈ heldPairs s.journal.entries := h.table.mem_iff.2 (List.mem_map_of_mem hr)
  have hpairs := heldPairs_released r.seq r.tag s.journal.entries
  rw [← hn.erase_eq_filter] at hpairs
  have hgone : (heldPairs s.journal.entries).Perm ([(r.tag, r.seq)] ++ (heldPairs s.journal.entries).erase (r.tag, r.seq)) :=
    List.perm_cons_erase hmem
  have hleft := h.heldLeft hgone
  rw [← hpairs] at hleft
  simp only [List.map_singleton, List.mem_singleton] at hleft
  rw [answerHeld_eq]
  exact (tagInv_iff _).2 hleft

theorem expireHold_tags (s : State) (tag : Tag) : KeepsTags s (s.expireHold tag) := by
  refine keepsTags_ite (fun _ => ?_) fun _ => id
  split
  · exact id
  · rename_i r hr
    have htag : r.tag = tag := by simpa using List.find?_some hr
    subst htag
    exact (releaseHeld_tags (List.mem_of_find?_eq_some hr)).trans ((withService_tags _ _).trans (settle_tags _))

theorem askRewind_tags (s : State) (k : Nat) : KeepsTags s (s.askRewind k) := by
  have hpairs : heldPairs (rewindFrom k s.journal.entries) = heldPairs s.journal.entries := by
    rw [rewindFrom, heldPairs_append, heldPairs_map fun _ => by exact ⟨rfl, rfl⟩, ← heldPairs_append,
      List.take_append_drop]
  have hrewind : KeepsTags s (s.withEntries (rewindFrom k s.journal.entries)) := keepsTags_of_same rfl rfl hpairs
  exact keepsTags_ite (fun _ => hrewind.trans ((withSeq_tags _ _).trans (withService_tags _ _))) fun _ =>
    (offerFault_tags s _ _ _ _ _).trans (linkLoss_tags _ _)

theorem expireTimer_tags (s : State) (n : TimerName) : KeepsTags s (s.expireTimer n) := by
  cases n with
  | ack => exact keepsTags_ite (fun _ => (askRewind_tags s 0).trans (settle_tags _)) fun _ => id
  | probe =>
    exact keepsTags_ite (fun _ => ((chooseFrame_same s true).keepsTags (chooseFrame_host s true)).trans (settle_tags _))
      fun _ => id
  | quiet => exact keepsTags_ite (fun _ => (linkLoss_tags s .link).trans (settle_tags _)) fun _ => id
  | stall => exact expireStall_tags s
  | held => exact foldl_tags _ expireHold_tags _ s

theorem expireDueTimers_tags (s : State) : KeepsTags s s.expireDueTimers :=
  keepsTags_ite (fun _ => foldl_tags _ expireTimer_tags _ s) fun _ => foldl_tags _ expireTimer_tags _ s

end Sys2Proof.Machine
end

section
/-! Every command keeps each tag in one place, and so does every step. -/

namespace Sys2Proof.Machine

/-! ### Frames received -/

theorem noteReceipt_tags (s : State) : KeepsTags s s.noteReceipt := keepsTags_ite (fun _ => id) fun _ => id

/-- A frame is noted and, where it counts, acted on and settled (R100). -/
theorem receive_tags (s : State) {c : Prop} [Decidable c] {t : State} (ht : KeepsTags s.noteReceipt t) :
    KeepsTags s (if s.receives then if c then t.settle else s.noteReceipt else s) :=
  keepsTags_ite
    (fun _ => keepsTags_ite (fun _ => (noteReceipt_tags s).trans (ht.trans (settle_tags _))) fun _ => noteReceipt_tags s)
    fun _ => id

theorem bogus_tags (s : State) (q : Seq) : KeepsTags s (s.bogus q) :=
  (offerFault_tags s _ _ _ _ _).trans (linkLoss_tags _ _)

/-- The head leaves the journal, and its held tags are answered (R35). -/
theorem headAnswered_tags {s : State} {e : JournalEntry} {rest : List JournalEntry} (h : s.journal.entries = e :: rest)
    (st : HostStatus) : KeepsTags s ((s.withEntries rest).answerTags e.heldTags st) := by
  intro hs
  have hpairs : (heldPairs s.journal.entries).Perm ((e.heldTags.map fun t => (t, e.seq)) ++ heldPairs rest) := by
    rw [h, heldPairs_cons]
  have hleft := ((tagInv_iff s).1 hs).heldLeft hpairs
  rw [entry_fst] at hleft
  rw [answerTags_eq]
  exact (tagInv_iff _).2 hleft

theorem acknowledge_tags (n : Nat) (s : State) : KeepsTags s (State.acknowledge n s) := by
  induction n generalizing s with
  | zero => exact id
  | succ n ih =>
    unfold State.acknowledge
    split
    · exact id
    · rename_i e rest he
      have hmark (u : State) (x : Sequencer) :
          KeepsTags u (if e.kind = .mark then (u.withSeq x).raise .markConfirmed else u) :=
        keepsTags_ite (fun _ => id) fun _ => id
      have hsweep (u : State) : KeepsTags u (if e.kind = .sweep then u.sweepTest e.window else u) :=
        keepsTags_ite (fun _ => sweepTest_tags u _) fun _ => id
      exact (headAnswered_tags he _).trans ((hmark _ _).trans ((hsweep _).trans ((withService_tags _ _).trans (ih _))))

theorem reconcile_tags (s : State) (f q : Seq) : KeepsTags s (s.reconcile f q) :=
  keepsTags_ite (fun _ => (suspendWhere_tags s Window.enabled .missingReport).trans
    ((markAll_tags _).trans ((withSeq_tags _ _).trans ((offerFault_tags _ _ _ _ _ _).trans (withService_tags _ _))))) fun _ => id

theorem takeAck_tags (s : State) (q f : Seq) : KeepsTags s (s.takeAck q f) := by
  unfold State.takeAck
  split
  · exact reconcile_tags s f q
  · rename_i k _
    exact (acknowledge_tags (k + 1) s).trans ((withSeq_tags _ _).trans (reconcile_tags _ f q))
  all_goals exact bogus_tags s q

theorem takeNak_tags (s : State) (q : Seq) : KeepsTags s (s.takeNak q) := by
  unfold State.takeNak
  split
  · exact askRewind_tags s _
  · exact id
  all_goals exact bogus_tags s q

theorem takeReport_tags (s : State) (r : Report) : KeepsTags s (s.takeReport r) := by
  have hreported : KeepsTags s (s.markReported r.seq) :=
    mapEntries_tags s fun e => by split <;> exact ⟨rfl, rfl⟩
  have hwindow (u : State) (a : Option (WinIdx × Nat)) : KeepsTags u (u.reportWindow a) := by
    unfold State.reportWindow
    split
    · exact id
    · exact (suspendWindow_tags u _ _).trans (markDirty_tags _ _ _)
  exact hreported.trans ((hwindow _ _).trans ((withSeq_tags _ _).trans (withService_tags _ _)))

theorem receiveHello_tags (s : State) (h : Hello) : KeepsTags s (s.noteReceipt.upHello h).settle := by
  have hhail (u : State) : KeepsTags u u.enterHail := by rw [enterHail_eq]; exact withLink_tags u _
  have hup (u : State) : KeepsTags u (u.upHello h) :=
    ((linkLoss_tags u .link).trans (hhail _)).trans (keepsTags_ite (fun _ => hailHello_tags _ h) fun _ => id)
  exact (noteReceipt_tags s).trans ((hup _).trans (settle_tags _))

theorem signalLost_tags (s : State) : KeepsTags s s.signalLost := by
  unfold State.signalLost
  split
  · exact id
  · exact id
  · exact linkLoss_tags s .link
  · exact id

/-! ### The host port -/

/-- A request with a free tag joins the queue and its tag the set (R43). -/
theorem acceptRequest_tags {s : State} {q : QueuedRequest} (hq : q.tag ∉ s.host.tags) :
    KeepsTags s (s.acceptRequest q) := by
  intro hs
  have hjoined := ((tagInv_iff s).1 hs).joined hq
  have hqueue : (s.host.queue ++ [q]).map QueuedRequest.tag = s.queueTags ++ [q.tag] := by
    rw [List.map_append]
    rfl
  rw [← hqueue] at hjoined
  unfold State.acceptRequest
  split <;> exact (tagInv_iff _).2 hjoined

/-- After a host port reset no tag is in use anywhere (R40, R61). -/
theorem hostPortReset_tags (s : State) : TagInv s.hostPortReset := by
  have hpairs : heldPairs (s.journal.entries.map fun e => { e with heldTags := [] }) = [] := by
    simp [heldPairs]
  have hport : s.hostPortReset.portTags = [] := by
    unfold State.hostPortReset State.portTags
    simp only [State.withPort_port, State.withJournal_port, State.withHost_port]
    rcases s.port.op with _ | ⟨line, access, owner⟩
    · rfl
    · cases owner <;> rfl
  rw [tagInv_iff, hport]
  exact hpairs ▸ Placed.nil

/-! ### The service port -/

theorem setWindow_tags (s : State) (echo : Byte) (a : SetWindowArgs) : KeepsTags s (s.setWindow echo a) := by
  unfold State.setWindow
  split
  · exact refuse_tags s _ _ _
  · refine keepsTags_ite (fun _ => reply_tags s _ _ _ _ _) fun _ => ?_
    split
    · exact keepsTags_ite (fun _ => refuse_tags s _ _ _) fun _ => keepsTags_ite (fun _ => refuse_tags s _ _ _) fun _ =>
        keepsTags_ite (fun _ => refuse_tags s _ _ _) fun _ => (withWindows_tags s _).trans (replyDone_tags _ _ _ _)
    · exact refuse_tags s _ _ _
    · exact refuse_tags s _ _ _

theorem tryEnable_tags (s : State) (echo : Byte) (n : Nat) : KeepsTags s (s.tryEnable echo n) := by
  have henable (w : WinIdx) : KeepsTags s (s.enableWindow w) :=
    keepsTags_ite (fun _ => (withWindows_tags s _).trans (markWindow_tags _ w)) fun _ => withWindows_tags s _
  unfold State.tryEnable
  split
  · exact refuse_tags s _ _ _
  · exact keepsTags_ite (fun _ => replyDone_tags s _ _ _) fun _ => keepsTags_ite (fun _ => refuse_tags s _ _ _) fun _ =>
      keepsTags_ite (fun _ => refuse_tags s _ _ _) fun _ => keepsTags_ite (fun _ => refuse_tags s _ _ _) fun _ =>
        settleDone_tags _ _ _ (henable _)

theorem disableWindow_tags (s : State) (w : WinIdx) : KeepsTags s (s.disableWindow w) := by
  rw [disableWindow_eq]; exact id

theorem tryStartSweep_tags (s : State) (echo : Byte) (n scope : Nat) : KeepsTags s (s.tryStartSweep echo n scope) := by
  have hstart (w : WinIdx) (full : Bool) : KeepsTags s (s.startSweep w full) := by
    have hmark : KeepsTags s (if full then s.markWindow w else s) :=
      keepsTags_ite (fun _ => markWindow_tags s w) fun _ => id
    exact hmark.trans ((withWindows_tags _ _).trans (sweepTest_tags _ w))
  unfold State.tryStartSweep
  split
  · refine keepsTags_ite (fun _ => refuse_tags s _ _ _) fun _ => keepsTags_ite (fun _ => refuse_tags s _ _ _) fun _ => ?_
    split
    · exact refuse_tags s _ _ _
    · exact replyDone_tags s _ _ _
    · exact replyDone_tags s _ _ _
    · exact settleDone_tags _ _ _ (hstart _ _)
  · exact refuse_tags s _ _ _
  · exact refuse_tags s _ _ _

theorem tryPause_tags (s : State) (echo : Byte) (n : Nat) : KeepsTags s (s.tryPause echo n) := by
  unfold State.tryPause
  split
  · exact refuse_tags s _ _ _
  · split
    · exact refuse_tags s _ _ _
    · exact replyDone_tags s _ _ _
    all_goals exact settleDone_tags _ _ _ (suspendWindow_tags s _ _)

theorem assumeSource_tags (s : State) (echo : Byte) : KeepsTags s (s.assumeSource echo) := by
  refine keepsTags_ite (fun _ => reply_tags s _ _ _ _ _) fun _ => ?_
  split
  · exact (changeRole_tags s .source).trans (replyDone_tags _ _ _ _)
  · exact replyDone_tags s _ _ _
  · exact (changeRole_tags s .draining).trans ((drainCheck_tags _).trans (reply_tags _ _ _ _ _ _))
  · exact reply_tags s _ _ _ _ _

theorem assumeSink_tags (s : State) (echo : Byte) (force : Bool) : KeepsTags s (s.assumeSink echo force) := by
  have hsink (u : State) : KeepsTags u ((u.changeRole .sink).replyDone echo 9 []) :=
    (changeRole_tags u .sink).trans (replyDone_tags _ _ _ _)
  refine keepsTags_ite (fun _ => reply_tags s _ _ _ _ _) fun _ => ?_
  split
  · exact hsink s
  · exact keepsTags_ite (fun _ => hsink s) fun _ =>
      keepsTags_ite (fun _ => (discard_tags s).trans (hsink _)) fun _ => refuse_tags s _ _ _
  · exact replyDone_tags s _ _ _
  · exact reply_tags s _ _ _ _ _

theorem setTimers_tags (s : State) (echo : Byte) (t : Timers) : KeepsTags s (s.setTimers echo t) :=
  keepsTags_ite (fun _ => reply_tags s _ _ _ _ _) fun _ => keepsTags_ite (fun _ => reply_tags s _ _ _ _ _) fun _ =>
    keepsTags_ite (fun _ => replyDone_tags s _ _ _) fun _ =>
      (withService_tags s _).trans ((expireDueTimers_tags _).trans (replyDone_tags _ _ _ _))

theorem setOverride_tags (s : State) (echo : Byte) (v : Option Bool) : KeepsTags s (s.setOverride echo v) := by
  unfold State.setOverride
  split
  · exact refuse_tags s _ _ _
  · exact keepsTags_ite (fun _ => replyDone_tags s _ _ _) fun _ => settleDone_tags _ _ _ (withService_tags s _)

theorem readFault_tags (s : State) (echo : Byte) : KeepsTags s (s.readFault echo) := by
  unfold State.readFault
  split
  · exact reply_tags s _ _ _ _ _
  · exact (withService_tags s _).trans (replyDone_tags _ _ _ _)

theorem linkTest_tags (s : State) (echo : Byte) (n : Nat) : KeepsTags s (s.linkTest echo n) :=
  keepsTags_ite (fun _ => refuse_tags s _ _ _) fun _ => keepsTags_ite (fun _ => refuse_tags s _ _ _) fun _ =>
    keepsTags_ite (fun _ => reply_tags s _ _ _ _ _) fun _ => (withLink_tags s _).trans (reply_tags _ _ _ _ _ _)

/-! ### Every command and every step -/

/-- The command answers a next state, which has each tag in one place if `s` has. -/
def TagsOutcome (s : State) (o : Host.Outcome State Fault Refusal) : Prop := ∃ t, o = .next t ∧ KeepsTags s t

theorem TagsOutcome.of_keeps {s t : State} (h : KeepsTags s t) : TagsOutcome s (.next t) := ⟨t, rfl, h⟩

theorem take_tags (s : State) {f : State → State} (hf : ∀ u, KeepsTags u (f u)) : TagsOutcome s (.next (s.take f)) :=
  .of_keeps (keepsTags_ite (fun _ => id) fun _ => (prompt_tags s).trans (hf _))

theorem takeCommand_tags (s : State) (echo code : Byte) (args : List Byte) {f : State → State}
    (hf : ∀ u, KeepsTags u (f u)) : TagsOutcome s (.next (s.takeCommand echo code args f)) :=
  take_tags s fun u => keepsTags_ite (fun _ => hf u) fun _ => refuse_tags u _ _ _

theorem coldReset_tags (s : State) (edge : ColdPinEdge) : TagsOutcome s (execColdReset edge s) := by
  cases edge with
  | asserted => exact .of_keeps fun _ => cold_tags _ true
  | released signal => exact .of_keeps (keepsTags_ite (fun _ _ => cold_tags s false) fun _ => prompt_tags s)

theorem hostRequest_tags (s : State) (r : HostRequest) : TagsOutcome s (execHostRequest r s) :=
  take_tags s fun u => keepsTags_ite (fun _ => id) fun _ => keepsTags_ite (fun _ => offerFault_tags u _ _ _ _ _)
    fun hfree => (acceptRequest_tags hfree).trans (settle_tags _)

/-- A completion, in a journal in order, of which only the tail can be open (R28). -/
theorem memoryCompletion_tags {s : State} (hj : JournalInv s) (c : Completion) :
    TagsOutcome s (execMemoryCompletion c s) := by
  refine .of_keeps (keepsTags_ite (fun _ => id) fun _ => (prompt_tags s).trans ?_)
  have hprompt := journalMoves_keep (prompt_journal s) hj
  beta_reduce
  split
  · exact id
  · exact (completeFor_tags hprompt ‹_› c).trans (settle_tags _)

/-- Every command answers a next state, and with the journal in order keeps each tag in one place. -/
theorem exec_tags (i : Instr) {s : State} (hj : JournalInv s) : TagsOutcome s (exec i s) := by
  cases i with
  | hostRequest r => exact hostRequest_tags s r
  | hostPortReset =>
    exact .of_keeps (keepsTags_ite (fun _ => id) fun _ =>
      keepsTags_ite (fun _ => prompt_tags s) fun _ _ => hostPortReset_tags _)
  | hostPortResetRelease => exact .of_keeps (prompt_tags s)
  | coldReset edge => exact coldReset_tags s edge
  | portGrant => exact .of_keeps (prompt_tags s)
  | memoryCompletion c => exact memoryCompletion_tags hj c
  | applyHeadExamine => exact .of_keeps (keepsTags_ite (fun _ => id) fun _ => examineNow_tags s)
  | drainEnd => exact take_tags s drainCheck_tags
  | stallExpiry => exact take_tags s expireStall_tags
  | holdExpiry tag => exact take_tags s fun u => expireHold_tags u tag
  | ackTimerExpiry => exact take_tags s fun u => expireTimer_tags u .ack
  | probeIdleExpiry => exact take_tags s fun u => expireTimer_tags u .probe
  | silenceExpiry => exact take_tags s fun u => expireTimer_tags u .quiet
  | helloRepeat =>
    exact take_tags s fun u => keepsTags_ite (fun _ => (withLink_tags u _).trans (settle_tags _)) fun _ => id
  | laneSignalChange signal =>
    refine take_tags s fun u => keepsTags_ite (fun _ => id) fun _ => ?_
    cases signal with
    | absent => exact (withLink_tags u _).trans ((signalLost_tags _).trans (settle_tags _))
    | present => exact (withLink_tags u _).trans (settle_tags _)
  | damagedFrame bytes =>
    exact take_tags s fun u => keepsTags_ite
      (fun _ => keepsTags_ite (fun _ => (withRx_tags u _).trans ((withService_tags _ _).trans (settle_tags _))) fun _ => id)
      fun _ => id
  | receiveHello h =>
    refine take_tags s fun u => keepsTags_ite (fun _ => ?_) fun _ => id
    split
    · exact id
    · exact (hailHello_tags u h).trans (settle_tags _)
    · exact keepsTags_ite (fun _ => noteReceipt_tags u) fun _ => receiveHello_tags u h
    · exact id
  | receiveDataFrame f => exact take_tags s fun u => receive_tags u (withRx_tags _ _)
  | receiveProbe epoch => exact take_tags s fun u => receive_tags u (withRx_tags _ _)
  | receiveAck epoch q f => exact take_tags s fun u => receive_tags u (takeAck_tags _ q f)
  | receiveNak epoch q reason => exact take_tags s fun u => receive_tags u (takeNak_tags _ q)
  | receiveReport r => exact take_tags s fun u => receive_tags u (takeReport_tags _ r)
  | receiveTestFrame pattern payload =>
    exact take_tags s fun u => keepsTags_ite (fun _ => noteReceipt_tags u) fun _ => id
  | frameEnd =>
    refine take_tags s fun u => ?_
    split
    · exact id
    · exact (withLink_tags u _).trans (settleWith_tags _ _)
  | testFrameReturn bytes =>
    refine take_tags s fun u => ?_
    split
    · exact id
    · exact keepsTags_ite (fun _ => id) fun _ => id
  | badMessage bytes =>
    exact take_tags s fun u => keepsTags_ite (fun _ => reply_tags u _ _ _ _ _) fun _ => reply_tags u _ _ _ _ _
  | unknownCommand echo code args => exact take_tags s fun u => reply_tags u _ _ _ _ _
  | getStatus echo args => exact takeCommand_tags s _ _ _ fun u => replyDone_tags u _ _ _
  | setWindow echo args => exact takeCommand_tags s _ _ _ fun u => setWindow_tags u _ _
  | getWindow echo args =>
    refine takeCommand_tags s _ _ _ fun u => ?_
    split
    · exact refuse_tags u _ _ _
    · exact replyDone_tags u _ _ _
  | enableWindow echo args => exact takeCommand_tags s _ _ _ fun u => tryEnable_tags u _ _
  | disableWindow echo args =>
    refine takeCommand_tags s _ _ _ fun u => ?_
    split
    · exact refuse_tags u _ _ _
    · exact keepsTags_ite (fun _ => settleDone_tags _ _ _ (disableWindow_tags u _)) fun _ => replyDone_tags u _ _ _
  | startSweep echo args => exact takeCommand_tags s _ _ _ fun u => tryStartSweep_tags u _ _ _
  | pauseWindow echo args => exact takeCommand_tags s _ _ _ fun u => tryPause_tags u _ _
  | assumeSource echo args => exact takeCommand_tags s _ _ _ fun u => assumeSource_tags u _
  | assumeSink echo args =>
    refine takeCommand_tags s _ _ _ fun u => ?_
    split
    · exact refuse_tags u _ _ _
    · exact assumeSink_tags u _ _
  | isolate echo args =>
    exact takeCommand_tags s _ _ _ fun u => keepsTags_ite (fun _ => replyDone_tags u _ _ _)
      fun _ => (changeRole_tags u .isolated).trans (replyDone_tags _ _ _ _)
  | setTimers echo args => exact takeCommand_tags s _ _ _ fun u => setTimers_tags u _ _
  | setMask echo args =>
    exact takeCommand_tags s _ _ _ fun u => (withService_tags u _).trans (replyDone_tags _ _ _ _)
  | readEvents echo args =>
    exact takeCommand_tags s _ _ _ fun u => (withService_tags u _).trans (replyDone_tags _ _ _ _)
  | readFault echo args => exact takeCommand_tags s _ _ _ fun u => readFault_tags u _
  | getMarks echo args => exact takeCommand_tags s _ _ _ fun u => replyDone_tags u _ _ _
  | setOverride echo args => exact takeCommand_tags s _ _ _ fun u => setOverride_tags u _ _
  | getStats echo args => exact takeCommand_tags s _ _ _ fun u => replyDone_tags u _ _ _
  | linkTest echo args => exact takeCommand_tags s _ _ _ fun u => linkTest_tags u _ _
  | restart echo args => exact takeCommand_tags s _ _ _ fun u => (warmReset_tags u).trans (replyDone_tags _ _ _ _)

/-- Settles O58: every command keeps each tag in one place; the journal's order is used where a held write completes. -/
theorem stepsKeepEachTagInOnePlace : Obligations.StepsKeepEachTagInOnePlace := by
  intro s t hj h hstep
  have hexec (i : Instr) {u : State} (hu : JournalInv u) (h : TagInv u) (hstep : exec i u = .next t) : TagInv t := by
    obtain ⟨t', ht', hkeeps⟩ := exec_tags i hu
    cases ht'.symm.trans hstep
    exact hkeeps h
  unfold step at hstep
  split at hstep
  · rename_i c rest _
    exact hexec c (u := s.withPending rest) hj h hstep
  · split at hstep
    · unfold State.chosen at hstep
      split at hstep
      · exact hexec _ hj h hstep
      · exact hexec _ (u := s.withFreeCount (s.freeCount + 1)) hj h hstep
    · injection hstep with hstep
      subst hstep
      unfold State.tick State.unlessHeld
      split <;> exact h

end Sys2Proof.Machine
end

section
/-! The override, and the acceptance of a host request. -/

namespace Sys2Proof.Machine

/-! ### SET_OVERRIDE -/

theorem boolArg_gt {k : Nat} (h : 1 < k) : boolArg k = none := by
  match k with
  | 0 | 1 => omega
  | k + 2 => rfl

theorem boolArg_byte (on : Bool) : boolArg (argNat [if on then (1 : Byte) else 0] 0 1) = some on := by
  rw [argNat_byte]
  cases on <;> rfl

theorem exec_setOverride {s : State} (echo b : Byte) (h : Ready s) :
    exec (.setOverride echo [b]) s = .next (s.setOverride echo (boolArg (argNat [b] 0 1))) :=
  congrArg Host.Outcome.next (takeCommand_taken echo 16 [b] _ h rfl)

/-- Settles O13, by the setting that the byte names. -/
theorem setOverrideActsAtOnce : Obligations.SetOverrideActsAtOnce := by
  unfold Obligations.SetOverrideActsAtOnce
  intro echo s hready
  refine ⟨fun b hb => ?_, fun on => ⟨fun hon => ?_, fun hon => ?_⟩⟩
  · rw [exec_setOverride echo b hready, argNat_byte, boolArg_gt hb]
    rfl
  · rw [exec_setOverride echo _ hready, boolArg_byte, State.setOverride, if_pos hon]
    rfl
  · rw [exec_setOverride echo _ hready, boolArg_byte, State.setOverride, if_neg hon]
    rfl

/-! ### HOST_REQUEST -/

theorem exec_hostRequest {s : State} (r : HostRequest) (h : Ready s) :
    exec (.hostRequest r) s =
      .next
        (if s.host.resetLine then s
        else if r.tag ∈ s.host.tags then s.offerFault .hostTag (s.owner r.line.granule) (some r.line) none none
        else (s.acceptRequest (queuedOf r)).settle) :=
  congrArg Host.Outcome.next (take_ready _ h)

/-- A parity bit differs from the odd parity of its byte exactly when byte and bit hold an even number of ones. -/
theorem oddParity_ne_iff (b : Byte) (bit : Bool) :
    bit ≠ oddParity b ↔ ((List.range 8).countP (b.getLsbD ·) + bit.toNat) % 2 = 0 := by
  have hodd := oddParity_odd b
  cases bit <;> cases hp : oddParity b <;> simp only [hp, Bool.toNat_true, Bool.toNat_false, ne_eq, not_true,
    Bool.true_eq_false, Bool.false_eq_true, not_false_iff, true_iff, false_iff] at hodd ⊢ <;> omega

/-- A write is parity-poisoned when a masked byte and its parity bit hold an even number of ones (R48). -/
theorem parityPoisoned_iff (mask : Mask) (data : LineData) (parity : BitVec 64) :
    parityPoisoned mask data parity = true ↔ ∃ i : Fin 64, mask.getLsbD i = true ∧
      ((List.range 8).countP (data[i].getLsbD ·) + (parity.getLsbD i).toNat) % 2 = 0 := by
  simp only [parityPoisoned, List.any_eq_true, List.mem_finRange, true_and, Bool.and_eq_true, bne_iff_ne,
    oddParity_ne_iff]

/-- What acceptance does: the tag, the queue, and the fault of a poisoned write (R43, R48). -/
theorem acceptRequest_eq (s : State) (q : QueuedRequest) :
    s.acceptRequest q =
      (s.withService
          (if q.isPoisoned then
            (s.offerFault .poisonWrite (s.owner q.line.granule) (some q.line) none none).service
          else s.service)).withHost
        { s.host with queue := s.host.queue ++ [q], tags := insertBy Fin.val q.tag s.host.tags } := by
  unfold State.acceptRequest
  split <;> rfl

/-- Behind a head that stays a request waits, and nothing else happens (R47). -/
theorem Settled.queued {s : State} (hs : Settled s) (hq : s.host.queue ≠ []) (q : QueuedRequest) (tags : List Tag) :
    Settled (s.withHost { s.host with queue := s.host.queue ++ [q], tags := tags }) := by
  have hrest := (settled_iff s).1 hs
  have hhead : (s.withHost { s.host with queue := s.host.queue ++ [q], tags := tags }).headCondition =
      s.headCondition := by
    obtain ⟨r, rest, hr⟩ := List.exists_cons_of_ne_nil hq
    rw [headCondition_cons hr, headCondition_cons (r := r) (rest := rest ++ [q]) (by rw [State.withHost_host, hr]; rfl)]
    exact congrArg some (condition_congr rfl rfl rfl rfl rfl r)
  exact (settled_iff _).2
    { hrest with
      head := by rw [hhead]; exact hrest.head
      stall := by rw [hhead]; exact hrest.stall }

theorem acceptRequest_settled {s : State} (hs : Settled s) (hq : s.host.queue ≠ []) (q : QueuedRequest) :
    Settled (s.acceptRequest q) := by
  unfold State.acceptRequest
  split
  · exact (hs.congr (offerFault_rest s _ _ _ _ _)).queued hq q _
  · exact hs.queued hq q _

/-- The request as it joins the queue: its operation, and the service port after it (R48). -/
theorem queuedOf_read {r : HostRequest} (h : r.op = .read) (s : State) :
    (queuedOf r).op = .read ∧ (s.acceptRequest (queuedOf r)).service = s.service := by
  have hop : (queuedOf r).op = .read := by rw [queuedOf, h]
  refine ⟨hop, ?_⟩
  rw [acceptRequest_eq, QueuedRequest.isPoisoned, hop]
  rfl

theorem queuedOf_write {r : HostRequest} {mask : Mask} {data : LineData} {parity : BitVec 64}
    (h : r.op = .write mask data parity) (s : State) :
    (queuedOf r).op = .write mask data (parityPoisoned mask data parity) ∧
      (s.acceptRequest (queuedOf r)).service =
        if parityPoisoned mask data parity then
          (s.offerFault .poisonWrite (s.owner r.line.granule) (some r.line) none none).service
        else s.service := by
  have hop : (queuedOf r).op = .write mask data (parityPoisoned mask data parity) := by rw [queuedOf, h]
  refine ⟨hop, ?_⟩
  rw [acceptRequest_eq, QueuedRequest.isPoisoned, hop]
  rfl

/-- Settles O26: the three cases, and of the accepted request the verdict on its parity. -/
theorem hostRequestIsAcceptedOrDiscarded : Obligations.HostRequestIsAcceptedOrDiscarded := by
  unfold Obligations.HostRequestIsAcceptedOrDiscarded
  intro r s hready
  rw [exec_hostRequest r hready]
  refine ⟨fun hline => ?_, fun hline htag => ?_, fun hline htag => ?_⟩
  · rw [if_pos hline]
  · rw [hline, if_neg Bool.false_ne_true, if_pos htag]
  · rw [hline, if_neg Bool.false_ne_true, if_neg htag]
    refine ⟨_, s.acceptRequest (queuedOf r), queuedOf r, rfl, rfl, rfl, fun hop => queuedOf_read hop s,
      fun mask data parity hop => ?_, ?_, fun a => ?_, rfl, fun hs hq => ?_⟩
    · exact ⟨_, (queuedOf_write hop s).1, parityPoisoned_iff mask data parity, (queuedOf_write hop s).2⟩
    · rw [acceptRequest_eq]
      rfl
    · rw [acceptRequest_eq]
      exact (perm_insertBy htag).mem_iff.trans List.mem_cons
    · exact acceptRequest_settled hs hq _

end Sys2Proof.Machine
end

section
/-! A role change in the terms of the state before it, and the commands ASSUME_SINK and ISOLATE. -/

namespace Sys2Proof.Machine

/-! ### Discard and conversion -/

/-- A discard changes the Host Port and empties the journal (R39). -/
theorem discard_withHost (s : State) : s.discard = (s.withHost s.discard.host).withEntries [] := by
  obtain ⟨host, h⟩ : ∃ host, s.discard = (s.withHost host).withEntries [] := ⟨_, by rw [discard_eq, answerTags_eq]⟩
  rw [h]
  rfl

/-- An empty journal has nothing to discard. -/
theorem discard_empty {s : State} (h : s.journal.entries = []) : s.discard = s := by
  have hhost : s.discard.host = s.host := by
    rw [discard_host, h]
    simp
  rw [discard_withHost, hhost, ← h]
  rfl

theorem convert_empty {s : State} (h : s.journal.entries = []) : s.convert = s := by
  unfold State.convert
  rw [h, List.foldl_nil, ← h]
  rfl

theorem convert_host (s : State) : s.convert.host = s.discard.host := by
  rw [convert_eq]
  rfl

theorem discard_host_congr {s t : State} (hh : t.host = s.host) (he : t.journal.entries = s.journal.entries) :
    t.discard.host = s.discard.host := by
  rw [discard_host, discard_host, hh, he]

/-! ### The end of a session by a role change -/

/-- The events of a role change: link loss from UP, and the suspension of capturing windows (R110, R155, R174). -/
def State.roleEvents (s : State) : BitVec 14 :=
  s.service.events ||| (if s.link.state = .up then EventCause.linkDown.flag else 0) |||
    (if (List.finRange 16).any (fun w => s.windows[w].capturing) then EventCause.windowSuspended.flag else 0)

/-- Out of a session no window captures and the journal is empty (R12, R22). -/
theorem SessionInv.quiet {s : State} (h : SessionInv s) (hs : ¬ s.inSession) :
    (∀ w : WinIdx, s.windows[w].capturing = false) ∧ s.journal.entries = [] := by
  obtain ⟨-, hcapturing, hentries⟩ := h
  exact ⟨fun w => Bool.eq_false_iff.2 fun hw => hs (hcapturing w hw), of_not_not fun he => hs (hentries he)⟩

theorem roleEvents_quiet {s : State} (h : ∀ w : WinIdx, s.windows[w].capturing = false) :
    s.roleEvents = s.service.events ||| (if s.link.state = .up then EventCause.linkDown.flag else 0) := by
  have hany : ((List.finRange 16).any fun w => s.windows[w].capturing) = false := by simpa using h
  unfold State.roleEvents
  rw [hany]
  exact BitVec.or_zero

/-- A window after a role change that ends its capture (R17). -/
def Window.roleSuspended (x : Window) : Window :=
  if x.capturing = true then { x with state := .suspended, cause := .role } else x

theorem roleSuspended_kept {x : Window} (h : x.capturing = false) : x.roleSuspended = x := if_neg (by simp [h])

/-- A suspended window does not capture; it is enabled if it was, with the same granules. -/
theorem roleSuspended_place (x : Window) :
    x.roleSuspended.capturing = false ∧ x.roleSuspended.enabled = x.enabled ∧
      ∀ g, x.roleSuspended.localHas g = x.localHas g := by
  cases h : x.capturing with
  | false => rw [roleSuspended_kept h]; exact ⟨h, rfl, fun _ => rfl⟩
  | true =>
    rw [Window.roleSuspended, if_pos h]
    exact ⟨rfl, (enabled_of_capturing h).symm, fun _ => rfl⟩

/-- `t` is `s` with its session ended: the link DOWN, the journal converted, its held tags answered, and the capturing
windows suspended with cause ROLE (R13, R38, R110, R155). -/
structure SessionEnded (s t : State) : Prop where
  kept : KeptAside s t
  host : t.host = s.discard.host
  entries : t.journal.entries = []
  windows : ∀ w : WinIdx, t.windows[w] = s.windows[w].roleSuspended
  dirty : ∀ g, g ∈ t.dirty ↔ g ∈ s.dirty ∨ ∃ e ∈ s.journal.entries, e.localLine.granule = g ∧
    s.windows[e.window].enabled = true ∧ s.windows[e.window].localHas g = true
  down : t.link.state = .down
  epoch : t.link.epoch = s.link.epoch
  faults : t.service.faults = s.service.faults
  events : t.service.events = s.roleEvents

/-- The event of a suspension, in the terms of the windows that it takes out of capture (R13). -/
theorem suspendCapturing_events (s : State) (cause : SuspendCause) :
    (s.suspendWhere Window.capturing cause).service.events =
      s.service.events |||
        (if (List.finRange 16).any (fun w => s.windows[w].capturing) then EventCause.windowSuspended.flag else 0) := by
  rw [suspendWhere_eq, State.withService_service]
  cases hany : (List.finRange 16).any fun w => s.windows[w].capturing with
  | true =>
    obtain ⟨w, -, hw⟩ := List.any_eq_true.1 hany
    exact if_pos ⟨w, hw, hw⟩
  | false =>
    rw [List.any_eq_false] at hany
    refine (if_neg ?_).trans BitVec.or_zero.symm
    rintro ⟨w, hw, -⟩
    exact hany w (List.mem_finRange w) hw

theorem suspendWhere_faults (s : State) (p : Window → Bool) (cause : SuspendCause) :
    (s.suspendWhere p cause).service.faults = s.service.faults := by
  rw [suspendWhere_eq]
  rfl

theorem suspendWhere_host (s : State) (p : Window → Bool) (cause : SuspendCause) :
    (s.suspendWhere p cause).host = s.host := by
  rw [suspendWhere_eq]
  rfl

/-- Link loss with cause ROLE ends the session of a SOURCE (R13, R38, R110). -/
theorem linkLoss_ends {s : State} (hs : s.inSession) : SessionEnded s (s.linkLoss .role) := by
  have hkept := linkLoss_kept s .role
  rw [linkLoss_source .role hs.2 hs.1] at hkept ⊢
  obtain ⟨-, hlink, hdirty, hjournal, -⟩ := suspendWhere_fields (s.leaveLink.raise .linkDown) Window.capturing .role
  have hhost := suspendWhere_host (s.leaveLink.raise .linkDown) Window.capturing .role
  have hfaults := suspendWhere_faults (s.leaveLink.raise .linkDown) Window.capturing .role
  have hevents := suspendCapturing_events (s.leaveLink.raise .linkDown) .role
  have hwindow (w : WinIdx) : ((s.leaveLink.raise .linkDown).suspendWhere Window.capturing .role).windows[w] =
      s.windows[w].roleSuspended := suspendWhere_get (s.leaveLink.raise .linkDown) Window.capturing .role w
  generalize (s.leaveLink.raise .linkDown).suspendWhere Window.capturing .role = u at *
  obtain ⟨hcw, -, hcl, -, -, -, hcs⟩ := convert_fields u
  refine ⟨hkept, ?_, convert_entries u, fun w => ?_, fun g => ?_, ?_, ?_, ?_, ?_⟩
  · exact (convert_host u).trans (discard_host_congr hhost (congrArg Journal.entries hjournal))
  · rw [State.withSeq_windows, hcw, hwindow]
  · have hentries : u.journal.entries = s.journal.entries := congrArg Journal.entries hjournal
    have hplace := fun w : WinIdx => (roleSuspended_place s.windows[w]).2
    rw [State.withSeq_dirty, mem_convert, hdirty, hentries]
    simp only [hwindow, hplace]
    rfl
  · exact (congrArg Link.state (hcl.trans hlink) :)
  · exact (congrArg Link.epoch (hcl.trans hlink) :)
  · exact (congrArg Service.faults hcs).trans hfaults
  · have hup : (if s.link.state = .up then EventCause.linkDown.flag else 0) = EventCause.linkDown.flag := if_pos hs.2
    rw [State.roleEvents, hup]
    exact (congrArg Service.events hcs).trans hevents

/-- Without a session the journal is empty and no window captures; the link leaves its state (R95, R110, R111). -/
theorem SessionEnded.of_quiet {s t : State} (hq : (∀ w : WinIdx, s.windows[w].capturing = false) ∧ s.journal.entries = [])
    (hkept : KeptAside s t)
    (hsame : t.host = s.host ∧ t.windows = s.windows ∧ t.dirty = s.dirty ∧ t.journal.entries = s.journal.entries)
    (hlink : t.link.state = .down ∧ t.link.epoch = s.link.epoch) (hfaults : t.service.faults = s.service.faults)
    (hevents : t.service.events = s.service.events ||| (if s.link.state = .up then EventCause.linkDown.flag else 0)) :
    SessionEnded s t := by
  obtain ⟨hcapturing, hempty⟩ := hq
  obtain ⟨hhost, hwindows, hdirty, hentries⟩ := hsame
  refine ⟨hkept, ?_, hentries.trans hempty, fun w => ?_, fun g => ?_, hlink.1, hlink.2, hfaults,
    hevents.trans (roleEvents_quiet hcapturing).symm⟩
  · rw [discard_empty hempty, hhost]
  · rw [hwindows, roleSuspended_kept (hcapturing w)]
  · rw [hdirty, hempty]
    simp

/-- The link part of a role change ends the session, whatever the link state (R155). -/
theorem roleLink_ends {s : State} (h : SessionInv s) (new : Role) : SessionEnded s (s.roleLink new) := by
  have hconv (t : State) (ht : SessionEnded s t) :
      SessionEnded s (if s.role = .source ∧ new = .isolated then t.convert else t) := by
    rw [convert_empty ht.entries, ite_self]
    exact ht
  have hdown (hl : s.link.state ≠ .up) :
      s.service.events = s.service.events ||| (if s.link.state = .up then EventCause.linkDown.flag else 0) := by
    rw [if_neg hl]
    exact BitVec.or_zero.symm
  have hleave (hl : s.link.state ≠ .up) : SessionEnded s s.leaveLink :=
    .of_quiet (h.quiet fun hs => hl hs.2) (.refl s) ⟨rfl, rfl, rfl, rfl⟩ ⟨rfl, rfl⟩ rfl (hdown hl)
  unfold State.roleLink
  refine hconv _ ?_
  cases hl : s.link.state with
  | up =>
    have hkept := linkLoss_kept s .role
    have hlost : (s.service.raise .linkDown).events =
        s.service.events ||| (if s.link.state = .up then EventCause.linkDown.flag else 0) := by rw [if_pos hl]; rfl
    cases hr : s.role with
    | source => exact linkLoss_ends ⟨hr, hl⟩
    | sink =>
      rw [linkLoss_sink .role hl hr] at hkept ⊢
      exact .of_quiet (h.quiet fun hs => nomatch hr.symm.trans hs.1) hkept ⟨rfl, rfl, rfl, rfl⟩ ⟨rfl, rfl⟩ rfl hlost
    | isolated | draining =>
      rw [linkLoss_other .role hl (by simp [hr])] at hkept ⊢
      exact .of_quiet (h.quiet fun hs => nomatch hr.symm.trans hs.1) hkept ⟨rfl, rfl, rfl, rfl⟩ ⟨rfl, rfl⟩ rfl hlost
  | hail | clash => exact hleave (by rw [hl]; decide)
  | down =>
    have hnot : s.link.state ≠ .up := by rw [hl]; decide
    exact .of_quiet (h.quiet fun hs => hnot hs.2) (.refl s) ⟨rfl, rfl, rfl, rfl⟩ ⟨hl, rfl⟩ rfl (hdown hnot)

/-! ### The blocks after a role change -/

/-- The blocks after a role change, before what follows at once (R155, parts 2 to 7). -/
def State.roleBlocks (s : State) (new : Role) : State :=
  (((s.roleLink new).withRole new).roleWindows s.role new).roleDirty s.role new

theorem changeRole_eq (s : State) (new : Role) :
    s.changeRole new =
      ((s.roleBlocks new).withService { (s.roleBlocks new).service with override := false }).settle := rfl

/-- After the link part of a role change no window captures, so that the windows part raises no event (R17). -/
theorem suspendWhere_ended {s : State} (hw : ∀ w : WinIdx, s.windows[w].capturing = false) (p : Window → Bool)
    (cause : SuspendCause) : (s.suspendWhere p cause).service = s.service := by
  rw [suspendWhere_eq]
  refine congrArg (fun e => { s.service with events := e }) (if_neg ?_)
  rintro ⟨w, -, hc⟩
  exact nomatch (hw w).symm.trans hc

/-- `t` has the fields of `s` that the windows part and the dirty set part of a role change leave (R155). -/
structure SameButWindows (s t : State) : Prop where
  kept : KeptAside s t
  host : t.host = s.host
  entries : t.journal.entries = s.journal.entries
  link : t.link = s.link
  service : t.service = s.service

theorem SameButWindows.refl (s : State) : SameButWindows s s := ⟨.refl s, rfl, rfl, rfl, rfl⟩

theorem SameButWindows.trans {s t u : State} (h : SameButWindows s t) (k : SameButWindows t u) : SameButWindows s u :=
  ⟨h.kept.trans k.kept, k.host.trans h.host, k.entries.trans h.entries, k.link.trans h.link, k.service.trans h.service⟩

theorem suspendWhere_sameButWindows {s : State} (hw : ∀ w : WinIdx, s.windows[w].capturing = false) (p : Window → Bool)
    (cause : SuspendCause) : SameButWindows s (s.suspendWhere p cause) := by
  obtain ⟨-, hlink, -, hjournal, -⟩ := suspendWhere_fields s p cause
  exact ⟨suspendWhere_kept s p cause, suspendWhere_host s p cause, congrArg Journal.entries hjournal, hlink,
    suspendWhere_ended hw p cause⟩

theorem markAll_windows (s : State) : s.markAll.windows = s.windows := by
  rw [markAll_eq, State.withDirty_windows]

theorem markAll_sameButWindows (s : State) : SameButWindows s s.markAll := by
  obtain ⟨dirty, hdirty⟩ : ∃ dirty, s.markAll = s.withDirty dirty := ⟨_, markAll_eq s⟩
  rw [hdirty]
  exact ⟨withDirty_kept s _, rfl, rfl, rfl, rfl⟩

/-- The windows part and the dirty set part leave what the link part made of the session. -/
theorem roleBlocks_same {s : State} (h : SessionInv s) (new : Role) :
    SameButWindows ((s.roleLink new).withRole new) (s.roleBlocks new) := by
  have hended := roleLink_ends h new
  have hw (w : WinIdx) : ((s.roleLink new).withRole new).windows[w].capturing = false := by
    rw [State.withRole_windows, hended.windows]
    exact (roleSuspended_place _).1
  have hwindows : SameButWindows ((s.roleLink new).withRole new) (((s.roleLink new).withRole new).roleWindows s.role new) := by
    unfold State.roleWindows
    split
    · exact suspendWhere_sameButWindows hw _ _
    · split
      · exact suspendWhere_sameButWindows hw _ _
      · exact .refl _
  refine hwindows.trans ?_
  unfold State.roleBlocks State.roleDirty
  split
  · exact ⟨withDirty_kept _ _, rfl, rfl, rfl, rfl⟩
  · split
    · exact markAll_sameButWindows _
    · exact .refl _

/-- A change to SINK: every enabled window suspended, no dirty granule and no sweep position (R17, R79). -/
theorem roleBlocks_sink {s : State} (h : SessionInv s) :
    (∀ w : WinIdx, (s.roleBlocks .sink).windows[w] =
        if s.windows[w].state = .off then s.windows[w]
        else { s.windows[w] with state := .suspended, cause := .role }) ∧
      (s.roleBlocks .sink).dirty = [] ∧ (s.roleBlocks .sink).sweep.position = none := by
  have hended := roleLink_ends h .sink
  have hblocks : s.roleBlocks .sink = (((s.roleLink .sink).withRole .sink).suspendWhere Window.enabled .role).withDirty [] :=
    rfl
  obtain ⟨-, -, -, -, -, -, hsweep⟩ := suspendWhere_fields ((s.roleLink .sink).withRole .sink) Window.enabled .role
  rw [hblocks]
  refine ⟨fun w => ?_, rfl, congrArg SweepEngine.position hsweep⟩
  rw [State.withDirty_windows, suspendWhere_get, State.withRole_windows, hended.windows, (roleSuspended_place _).2.1]
  by_cases hoff : s.windows[w].state = .off
  · have hen := (enabled_false_iff _).2 hoff
    have hcap : s.windows[w].capturing = false := Bool.eq_false_iff.2 fun hc => nomatch hen.symm.trans (enabled_of_capturing hc)
    rw [if_pos hoff, hen, if_neg Bool.false_ne_true, roleSuspended_kept hcap]
  · rw [if_neg hoff, if_pos ((enabled_iff _).2 hoff)]
    unfold Window.roleSuspended
    split <;> rfl

/-- A change to another role suspends the capturing windows alone (R17). -/
theorem roleBlocks_windows {s : State} (h : SessionInv s) {new : Role} (hnew : new ≠ .sink) (w : WinIdx) :
    (s.roleBlocks new).windows[w] = s.windows[w].roleSuspended := by
  have hended := roleLink_ends h new
  have hwindows : (((s.roleLink new).withRole new).roleWindows s.role new).windows[w] = s.windows[w].roleSuspended := by
    unfold State.roleWindows
    rw [if_neg hnew]
    split
    · rw [suspendWhere_get, State.withRole_windows, hended.windows, (roleSuspended_place _).1]
      rfl
    · exact hended.windows w
  unfold State.roleBlocks State.roleDirty
  rw [if_neg hnew]
  split
  · simp only [markAll_windows]
    exact hwindows
  · exact hwindows

/-- The dirty set after a change to another role than SINK: what was dirty, the converted journal, and what is marked
(R38, R79). -/
theorem mem_roleBlocks {s : State} (h : SessionInv s) {new : Role} (hnew : new ≠ .sink) (g : Nat) :
    g ∈ (s.roleBlocks new).dirty ↔
      (g ∈ s.dirty ∨ ∃ e ∈ s.journal.entries, e.localLine.granule = g ∧ s.windows[e.window].enabled = true ∧
          s.windows[e.window].localHas g = true) ∨
        (((s.role = .sink ∧ new = .isolated) ∨ s.role = .draining) ∧ ∃ v : WinIdx, s.windows[v].enabled = true ∧ s.windows[v].localHas g = true) := by
  have hended := roleLink_ends h new
  have hdirty : (((s.roleLink new).withRole new).roleWindows s.role new).dirty = (s.roleLink new).dirty := by
    unfold State.roleWindows
    rw [if_neg hnew]
    split
    · rw [suspendWhere_eq]; rfl
    · rfl
  have hwindow (w : WinIdx) := roleBlocks_windows h hnew w
  have hplace := fun w : WinIdx => (roleSuspended_place s.windows[w]).2
  unfold State.roleBlocks State.roleDirty at hwindow ⊢
  rw [if_neg hnew] at hwindow ⊢
  rw [← hended.dirty, ← hdirty]
  split
  · rename_i hmarks
    simp only [if_pos hmarks, markAll_windows] at hwindow
    simp only [mem_markAll, hwindow, hplace, hmarks, true_and]
  · rename_i hmarks
    simp only [hmarks, false_and, or_false]

end Sys2Proof.Machine
end

section
/-! The commands ASSUME_SINK and ISOLATE, by what a role change leaves and what follows it at once. -/

namespace Sys2Proof.Machine

/-! ### After a role change -/

/-- `t` is `s` after a role change, but for the windows, the dirty set, the sweep position and the link, which follow the new
role (R155). -/
structure RoleChanged (s : State) (new : Role) (t : State) : Prop where
  role : t.role = new
  entries : t.journal.entries = []
  nextSeq : t.journal.nextSeq = s.journal.nextSeq
  applyQueue : t.rx.applyQueue = s.rx.applyQueue
  op : t.port.op = s.port.op
  override : t.service.override = false
  faults : t.service.faults = s.service.faults
  events : t.service.events = s.roleEvents
  held : t.host.held = s.discard.host.held
  answers : ∃ more : List HostResponse, t.host.responses = s.discard.host.responses ++ more ∧
    t.host.tags = s.discard.host.tags.filter fun tag => tag ∉ more.map HostResponse.tag

/-- The requests answered at the head while settling: their answers follow those given before, and their tags are free
(R47). -/
theorem settle_answers (s : State) :
    ∃ more : List HostResponse, s.settle.host.responses = s.host.responses ++ more ∧
      s.settle.host.tags = s.host.tags.filter fun tag => tag ∉ more.map HostResponse.tag := by
  obtain ⟨n, -, -, -, hresponses, htags⟩ := settleWith_heads s false
  refine ⟨_, hresponses, htags.trans ?_⟩
  rw [List.map_map]
  rfl

theorem changeRole_changed {s : State} (h : SessionInv s) (new : Role) : RoleChanged s new (s.changeRole new) := by
  have hended := roleLink_ends h new
  have hblocks := roleBlocks_same h new
  obtain ⟨-, -, hport, hnext, -, -, -, -, -, hqueue, -⟩ := hended.kept
  obtain ⟨-, -, hport', hnext', -, -, -, -, -, hqueue', -, hrole', -⟩ := hblocks.kept
  have hhost : (s.roleBlocks new).host = s.discard.host := hblocks.host.trans hended.host
  rw [changeRole_eq]
  generalize hb : (s.roleBlocks new).withService { (s.roleBlocks new).service with override := false } = b
  have hsame := settle_same b
  obtain ⟨hheld, -, -, hop, hnext'', -⟩ := settle_same b
  have hservice := hsame.service_eq
  refine ⟨hsame.role_eq.trans ?_, ?_, hnext''.trans ?_, hsame.applyQueue_eq.trans ?_, hop.trans ?_, ?_, ?_, ?_, hheld.trans ?_, ?_⟩
  · rw [← hb]; exact hrole'
  · refine List.length_eq_zero_iff.1 (hsame.entries_length.trans ?_)
    rw [← hb, State.withService_journal, hblocks.entries, State.withRole_journal, hended.entries]
    rfl
  · rw [← hb]; exact hnext'.trans hnext
  · rw [← hb]; exact hqueue'.trans hqueue
  · rw [← hb]; exact congrArg MemoryPort.op (hport'.trans hport)
  · rw [hservice, ← hb]; rfl
  · rw [hservice, ← hb]; exact (congrArg Service.faults hblocks.service).trans hended.faults
  · rw [hservice, ← hb]; exact (congrArg Service.events hblocks.service).trans hended.events
  · rw [← hb]; exact congrArg HostPort.held hhost
  · rw [← hhost]
    obtain ⟨more, hmore⟩ := settle_answers b
    rw [← hb] at hmore ⊢
    exact ⟨more, hmore⟩

/-- The Host Port after a role change: the held tags answered and free, then the answers at the head (R47, R55). -/
theorem RoleChanged.tags {s t : State} {new : Role} (h : RoleChanged s new t) (held : List Tag)
    (hheld : held = s.journal.entries.flatMap (·.heldTags)) :
    t.host.held = s.host.held.filter (fun r => r.tag ∉ held) ∧ (TagInv s → t.host.held = []) ∧
      ∃ more : List HostResponse,
        t.host.responses =
          s.host.responses ++ held.map (fun tag => { tag := tag, status := .unmirrored, data := none }) ++ more ∧
          t.host.tags = s.host.tags.filter fun tag => tag ∉ held ∧ tag ∉ more.map HostResponse.tag := by
  obtain ⟨more, hresponses, htags⟩ := h.answers
  refine ⟨?_, fun hs => h.held.trans (discard_held hs), more, ?_, ?_⟩
  · rw [h.held, discard_host, hheld]
  · rw [hresponses, discard_host, hheld]
  · rw [htags, discard_host, hheld]
    simp only [List.filter_filter]
    refine List.filter_congr fun tag _ => ?_
    rw [Bool.decide_and, Bool.and_comm]

theorem roleBlocks_link {s : State} (h : SessionInv s) (new : Role) :
    (s.roleBlocks new).link.state = .down ∧ (s.roleBlocks new).link.epoch = s.link.epoch ∧
      (s.roleBlocks new).link.signal = s.link.signal ∧ (s.roleBlocks new).link.test = s.link.test ∧
      (s.roleBlocks new).role = new := by
  have hended := roleLink_ends h new
  have hblocks := roleBlocks_same h new
  obtain ⟨-, -, -, -, -, hsignal, -, htest, -⟩ := hended.kept
  rw [hblocks.link]
  exact ⟨hended.down, hended.epoch, hsignal, htest, hblocks.kept.role_eq⟩

theorem changeRole_tables (s : State) (new : Role) :
    (s.changeRole new).windows = (s.roleBlocks new).windows ∧ (s.changeRole new).dirty = (s.roleBlocks new).dirty :=
  ⟨(settle_same _).windows_eq, (settle_same _).dirty_eq⟩

/-! ### ISOLATE -/

theorem exec_isolate {s : State} (echo : Byte) (h : Ready s) :
    exec (.isolate echo []) s =
      .next (if s.role = .isolated then s.replyDone echo 10 [] else (s.changeRole .isolated).replyDone echo 10 []) :=
  congrArg Host.Outcome.next (takeCommand_taken echo 10 [] _ h rfl)

/-- An ISOLATED unit stays DOWN (R103, R157). -/
theorem changeRole_isolated_link {s : State} (h : SessionInv s) :
    (s.changeRole .isolated).link.state = .down ∧ (s.changeRole .isolated).link.epoch = s.link.epoch := by
  obtain ⟨hdown, hepoch, -, -, hrole⟩ := roleBlocks_link h .isolated
  rw [changeRole_eq]
  obtain ⟨hlink, -⟩ := settleWith_quiet
    ((s.roleBlocks .isolated).withService { (s.roleBlocks .isolated).service with override := false }) false (.inl hrole)
  unfold State.settle
  rw [hlink]
  exact ⟨hdown, hepoch⟩

/-- The dirty set of a unit that leaves its role for ISOLATED (R38, R79, R157). -/
theorem mem_changeRole_isolated {s : State} (h : SessionInv s) (hr : s.role ≠ .isolated) (g : Nat) :
    g ∈ (s.changeRole .isolated).dirty ↔
      g ∈ s.dirty ∨
        (s.role = .source ∧ ∃ e ∈ s.journal.entries, e.localLine.granule = g ∧
          s.windows[e.window].state ≠ .off ∧ s.windows[e.window].localHas g = true) ∨
        (s.role ≠ .source ∧ ∃ v : WinIdx, s.windows[v].state ≠ .off ∧ s.windows[v].localHas g = true) := by
  rw [(changeRole_tables s .isolated).2, mem_roleBlocks h (by decide), or_assoc]
  simp only [enabled_iff, and_true]
  by_cases hsource : s.role = .source
  · simp [hsource]
  · have hempty := (h.quiet fun hs => hsource hs.1).2
    have hmarks : s.role = .sink ∨ s.role = .draining := by
      cases hrole : s.role <;> simp_all
    simp [hempty, hsource, hmarks]

/-- Settles O21: the Host Port and the events by the role change, and the windows, the dirty set and the link by ISOLATED. -/
theorem isolateKeepsEveryLineCovered : Obligations.IsolateKeepsEveryLineCovered := by
  unfold Obligations.IsolateKeepsEveryLineCovered
  intro echo s hready command
  refine ⟨fun hr => ?_, fun h hr => ?_⟩
  · rw [exec_isolate echo hready, if_pos hr]
    rfl
  · have hchanged := changeRole_changed h .isolated
    obtain ⟨hdown, hepoch⟩ := changeRole_isolated_link h
    have hwindows (w : WinIdx) : (s.changeRole .isolated).windows[w] = s.windows[w].roleSuspended := by
      rw [(changeRole_tables s .isolated).1]
      exact roleBlocks_windows h (by decide) w
    have hdirty := mem_changeRole_isolated h hr
    rw [exec_isolate echo hready, if_neg hr]
    generalize s.changeRole .isolated = t at *
    exact ⟨_, rfl, hchanged.role, hdown, hepoch, hchanged.entries, hchanged.nextSeq, hchanged.applyQueue, hchanged.op,
      hwindows, hdirty, hchanged.tags, hchanged.override, hchanged.faults, rfl, hchanged.events⟩

/-! ### ASSUME_SINK -/

theorem exec_assumeSink_force {s : State} (echo : Byte) (force : Bool) (h : Ready s) :
    exec (.assumeSink echo [if force then 1 else 0]) s = .next (s.assumeSink echo force) := by
  refine congrArg Host.Outcome.next ((takeCommand_taken echo 9 _ _ h rfl).trans ?_)
  simp only [boolArg_byte]

theorem exec_assumeSink_value {s : State} (echo b : Byte) (h : Ready s) (hb : 1 < b.toNat) :
    exec (.assumeSink echo [b]) s = .next (s.refuse echo 9 .value) := by
  refine congrArg Host.Outcome.next ((takeCommand_taken echo 9 [b] _ h rfl).trans ?_)
  simp only [argNat_byte, boolArg_gt hb]

/-- Out of ISOLATED, and out of SOURCE with an empty journal or with force, the journal is discarded and the unit becomes
SINK; an empty journal has nothing to discard (R154, R159). -/
theorem assumeSink_accepted {s : State} (echo : Byte) {force : Bool} (h : SessionInv s)
    (htest : s.link.test.running = false)
    (hr : s.role = .isolated ∨ s.role = .source ∧ (s.journal.entries = [] ∨ force = true)) :
    s.assumeSink echo force = (s.discard.changeRole .sink).replyDone echo 9 [] := by
  unfold State.assumeSink
  rw [htest, if_neg Bool.false_ne_true]
  rcases hr with hr | ⟨hr, hforce⟩
  · rw [hr, discard_empty (h.quiet (inSession_not_isolated hr)).2]
  · rw [hr]
    by_cases hempty : s.journal.entries = []
    · rw [discard_empty hempty]
      exact if_pos hempty
    · exact (if_neg hempty).trans (if_pos (hforce.resolve_left hempty))

theorem discard_fields (s : State) :
    s.discard.role = s.role ∧ s.discard.link = s.link ∧ s.discard.windows = s.windows ∧ s.discard.port = s.port ∧
      s.discard.rx = s.rx ∧ s.discard.service = s.service ∧ s.discard.journal.nextSeq = s.journal.nextSeq := by
  rw [discard_withHost]
  exact ⟨rfl, rfl, rfl, rfl, rfl, rfl, rfl⟩

theorem SessionInv.discard {s : State} (h : SessionInv s) : SessionInv s.discard := by
  obtain ⟨hrole, hlink, hwindows, -⟩ := discard_fields s
  obtain ⟨hlegal, hcapturing, -⟩ := h
  refine ⟨?_, ?_, fun he => absurd (discard_entries s) he⟩
  · unfold LinkLegal at hlegal ⊢
    rwa [hrole, hlink]
  · unfold State.inSession at hcapturing ⊢
    rw [hrole, hlink, hwindows]
    exact hcapturing

/-- A forced discard before a role change to SINK: what the change then leaves is what it leaves without it (R159). -/
theorem RoleChanged.of_discard {s t : State} {new : Role} (h : RoleChanged s.discard new t) : RoleChanged s new t := by
  obtain ⟨-, hlink, hwindows, hport, hrx, hservice, hnext⟩ := discard_fields s
  have hhost : s.discard.discard.host = s.discard.host := by rw [discard_empty (discard_entries s)]
  have hevents : s.discard.roleEvents = s.roleEvents := by
    unfold State.roleEvents
    rw [hservice, hlink, hwindows]
  obtain ⟨hrole, hentries, hnextSeq, hqueue, hop, hoverride, hfaults, hflags, hheld, hanswers⟩ := h
  rw [hhost] at hheld hanswers
  exact ⟨hrole, hentries, hnextSeq.trans hnext, by rw [hqueue, hrx], by rw [hop, hport], hoverride,
    by rw [hfaults, hservice], hflags.trans hevents, hheld, hanswers⟩

/-- A unit that becomes SINK hails under its epoch while the signal is PRESENT (R103, R158). -/
theorem changeRole_sink_link {s : State} (h : SessionInv s) (htest : s.link.test.running = false) :
    (s.changeRole .sink).link.epoch = s.link.epoch ∧
      (s.link.signal = .present → (s.changeRole .sink).link.state = .hail) ∧
      (s.link.signal = .absent → (s.changeRole .sink).link.state = .down) := by
  obtain ⟨hdown, hepoch, hsignal, htest', hrole⟩ := roleBlocks_link h .sink
  rw [changeRole_eq]
  generalize hb : (s.roleBlocks .sink).withService { (s.roleBlocks .sink).service with override := false } = b
  have hlink : b.link = (s.roleBlocks .sink).link := by rw [← hb]; rfl
  have hsink : b.role = .sink := by rw [← hb]; exact hrole
  obtain ⟨hstate, hepoch'⟩ := settleWith_link b false
  unfold State.settle
  rw [hstate, hepoch', State.enterHail, hlink, hdown, hsink, hsignal, htest', htest]
  cases s.link.signal <;> simp [hlink, hdown, hepoch]

/-- On a unit that becomes SINK nothing sweeps, and no granule is dirty (R17, R79, R88). -/
theorem changeRole_sink_tables {s : State} (h : SessionInv s) :
    (∀ w : WinIdx, (s.changeRole .sink).windows[w] =
        if s.windows[w].state = .off then s.windows[w]
        else { s.windows[w] with state := .suspended, cause := .role }) ∧
      (s.changeRole .sink).dirty = [] ∧ (s.changeRole .sink).sweep.position = none := by
  obtain ⟨hwindows, hdirty, hposition⟩ := roleBlocks_sink h
  have htables := changeRole_tables s .sink
  refine ⟨fun w => ?_, htables.2.trans hdirty, ?_⟩
  · rw [htables.1]
    exact hwindows w
  · rw [changeRole_eq]
    refine (congrArg SweepEngine.position (settleWith_sweep_none false ?_ fun w => ?_)).trans hposition
    · exact hposition
    · rw [State.withService_windows, hwindows]
      split
      · rename_i hoff; rw [hoff]; decide
      · exact nofun

/-- Settles O20: the refusals by the role, and the change to SINK after the discard. -/
theorem assumeSinkFollowsTheRole : Obligations.AssumeSinkFollowsTheRole := by
  unfold Obligations.AssumeSinkFollowsTheRole
  intro echo s hready
  refine ⟨fun b => exec_assumeSink_value echo b hready, fun force => ?_⟩
  intro command
  rw [exec_assumeSink_force echo force hready]
  refine ⟨fun htest => ?_, fun htest => ⟨fun hr => ?_, fun hr => ?_, fun hr he hforce => ?_, fun h hr => ?_⟩⟩
  · rw [State.assumeSink, if_pos htest]
  · rw [State.assumeSink, htest, if_neg Bool.false_ne_true, hr]
    rfl
  · rw [State.assumeSink, htest, if_neg Bool.false_ne_true, hr]
  · rw [State.assumeSink, htest, if_neg Bool.false_ne_true, hr, hforce]
    exact congrArg Host.Outcome.next (if_neg he)
  · obtain ⟨-, hlink, hwin, -⟩ := discard_fields s
    have hchanged := (changeRole_changed h.discard .sink).of_discard
    obtain ⟨hwindows, hdirty, hposition⟩ := changeRole_sink_tables h.discard
    have hsession := changeRole_sink_link h.discard (by rw [hlink]; exact htest)
    rw [hwin] at hwindows
    rw [hlink] at hsession
    obtain ⟨hepoch, hpresent, habsent⟩ := hsession
    rw [assumeSink_accepted echo h htest hr]
    generalize s.discard.changeRole .sink = t at *
    exact ⟨_, rfl, hchanged.role, hdirty, hchanged.entries, hchanged.nextSeq, hchanged.applyQueue, hchanged.op,
      hposition, hwindows, hchanged.tags, hepoch, hpresent, habsent, hchanged.override, hchanged.faults, rfl,
      hchanged.events⟩

end Sys2Proof.Machine
end

section
/-! The apply head, examined and completed (R75, R140, R141, R142). -/

namespace Sys2Proof.Machine

theorem exec_applyHeadExamine {s : State} (hp : s.coldPin = false) : exec .applyHeadExamine s = .next s.examineNow :=
  congrArg Host.Outcome.next (unlessHeld_released _ hp)

/-- With no examination due the command changes nothing (R140). -/
theorem exec_applyHeadExamine_none {s : State} (h : s.examineDue = false) (hp : s.coldPin = false) :
    exec .applyHeadExamine s = .next s := by
  rw [exec_applyHeadExamine hp, examineNow_none h]

theorem exec_applyHeadExamine_due {s : State} (h : s.examineDue = true) (hp : s.coldPin = false) :
    exec .applyHeadExamine s = .next s.examine.drainCheck.settle := by
  rw [exec_applyHeadExamine hp, State.examineNow, if_pos h]

/-- An empty queue, a head on the port and a WITHHELD head have no examination due (R140). -/
theorem examineDue_stays {s : State}
    (h : s.rx.applyQueue = [] ∨ s.headOnPort = true ∨ Config.reportQueueSize ≤ s.rx.reportQueue.length) :
    s.examineDue = false := by
  rw [← Bool.not_eq_true, examineDue_iff]
  rintro ⟨e, rest, hq, hport, hroom, -⟩
  rcases h with h | h | h
  · exact nomatch hq.symm.trans h
  · exact nomatch hport.symm.trans h
  · exact absurd hroom (Nat.not_lt.2 h)

/-- A PRESENTED head has no examination due (R140). -/
theorem examineDue_presented {s : State} {e : ApplyEntry} {rest : List ApplyEntry} (hq : s.rx.applyQueue = e :: rest)
    (hmask : e.mask ≠ 0) {w : WinIdx} (hw : s.owner e.target.granule = some w) : s.examineDue = false := by
  rw [← Bool.not_eq_true, examineDue_iff]
  rintro ⟨e', rest', hq', -, -, hdue⟩
  obtain ⟨rfl, -⟩ := List.cons.inj (hq.symm.trans hq')
  exact hdue.elim hmask fun hnone => nomatch hw.symm.trans hnone

theorem completeFor_apply {o : Operation} {e : ApplyEntry} {w : Option WinIdx} {discarded : Bool} (s : State)
    (c : Completion) (ho : o.owner = .apply e w discarded) :
    s.completeFor o c = if discarded then s else s.completeApply e w c := by
  rw [State.completeFor, ho]

/-- Settles O49: which head is finished, by what the examination finds of it, and how the completion of its write finishes
it. -/
theorem applyHeadIsExaminedAndCompleted : Obligations.ApplyHeadIsExaminedAndCompleted := by
  refine ⟨fun s => ⟨fun hstays => ?_, fun e rest hq hport hroom => ⟨fun hmask => ?_, fun hmask ⟨w, hw⟩ => ?_,
    fun hmask hnone => ?_, fun hdue hp => ?_⟩⟩, fun s c line access e w discarded hready hop => ⟨fun hd => ?_, fun hd => ?_⟩⟩
  · exact ⟨examine_stays hstays, exec_applyHeadExamine_none (examineDue_stays hstays)⟩
  · rw [examine_head hq hport hroom, if_pos hmask]
  · refine ⟨?_, exec_applyHeadExamine_none (examineDue_presented hq hmask hw)⟩
    rw [examine_head hq hport hroom, if_neg hmask, hw, if_neg nofun]
  · rw [examine_head hq hport hroom, if_neg hmask, if_pos hnone]
  · exact exec_applyHeadExamine_due ((examineDue_iff s).2 ⟨e, rest, hq, hport, hroom, hdue⟩) hp
  · rw [exec_completion c hready hop, completeFor_apply _ c rfl, hd]
    rfl
  · have hcompletion : exec (.memoryCompletion c) s = .next (s.idlePort.completeApply e w c).settle := by
      rw [exec_completion c hready hop, completeFor_apply _ c rfl, hd]
      rfl
    rw [hcompletion]
    cases c with
    | ok data poison => exact ⟨nofun, fun _ => rfl⟩
    | error => exact ⟨fun _ => rfl, fun h => absurd rfl h⟩

end Sys2Proof.Machine
end

section
/-! The capacities and the timer settings through the operations that the commands share. -/

namespace Sys2Proof.Machine

/-- `t` is within the capacities if `s` is, and has legal timer settings if `s` has. -/
structure KeepsCapacities (s t : State) : Prop where
  capacity : CapacityInv s → CapacityInv t
  timers : TimersInv s → TimersInv t

theorem KeepsCapacities.refl (s : State) : KeepsCapacities s s := ⟨id, id⟩

theorem KeepsCapacities.trans {s t u : State} (h : KeepsCapacities s t) (k : KeepsCapacities t u) :
    KeepsCapacities s u :=
  ⟨fun hs => k.capacity (h.capacity hs), fun hs => k.timers (h.timers hs)⟩

theorem KeepsCapacities.ite {c : Prop} [Decidable c] {s a b : State} (ha : c → KeepsCapacities s a)
    (hb : ¬ c → KeepsCapacities s b) : KeepsCapacities s (if c then a else b) := by
  split
  · exact ha ‹_›
  · exact hb ‹_›

/-- An effect that a condition decides about. -/
theorem KeepsCapacities.cond {c : Prop} [Decidable c] {s t : State} (h : c → KeepsCapacities s t) :
    KeepsCapacities s (if c then t else s) :=
  .ite h fun _ => .refl s

theorem KeepsCapacities.foldl {α : Type} {f : State → α → State} (hf : ∀ s a, KeepsCapacities s (f s a)) (l : List α)
    (s : State) : KeepsCapacities s (l.foldl f s) := by
  induction l generalizing s with
  | nil => exact .refl s
  | cons a l ih => exact (hf s a).trans (ih _)

/-! ### Updates of one block -/

theorem withLink_capacity (s : State) (x : Link) : KeepsCapacities s (s.withLink x) := ⟨id, id⟩
theorem withSeq_capacity (s : State) (x : Sequencer) : KeepsCapacities s (s.withSeq x) := ⟨id, id⟩
theorem withSweep_capacity (s : State) (x : SweepEngine) : KeepsCapacities s (s.withSweep x) := ⟨id, id⟩
theorem withDirty_capacity (s : State) (x : List Nat) : KeepsCapacities s (s.withDirty x) := ⟨id, id⟩
theorem withRole_capacity (s : State) (x : Role) : KeepsCapacities s (s.withRole x) := ⟨id, id⟩
theorem withFreeCount_capacity (s : State) (n : Nat) : KeepsCapacities s (s.withFreeCount n) := ⟨id, id⟩
theorem withWindows_capacity (s : State) (x : Vector Window 16) : KeepsCapacities s (s.withWindows x) := ⟨id, id⟩
theorem withJournal_capacity (s : State) (x : Journal) : KeepsCapacities s (s.withJournal x) := ⟨id, id⟩
theorem withHost_capacity (s : State) (x : HostPort) : KeepsCapacities s (s.withHost x) := ⟨id, id⟩
theorem raise_capacity (s : State) (c : EventCause) : KeepsCapacities s (s.raise c) := ⟨id, id⟩
theorem count_capacity (s : State) (f : Stats → Stats) : KeepsCapacities s (s.count f) := ⟨id, id⟩
theorem reply_capacity (s : State) (echo code : Byte) (st : ServiceStatus) (r : Reason) (l : List Byte) :
    KeepsCapacities s (s.reply echo code st r l) := ⟨id, id⟩
theorem replyDone_capacity (s : State) (echo code : Byte) (l : List Byte) :
    KeepsCapacities s (s.replyDone echo code l) := ⟨id, id⟩
theorem refuse_capacity (s : State) (echo code : Byte) (r : Reason) : KeepsCapacities s (s.refuse echo code r) :=
  ⟨id, id⟩

/-! ### Queues, counts and the fault list -/

/-- Queues that got no longer, an apply write on the port that was there before, and a count that got no higher. -/
theorem KeepsCapacities.of_fewer {s t : State} (hqueue : t.rx.applyQueue.length ≤ s.rx.applyQueue.length)
    (hreports : t.rx.reportQueue.length ≤ s.rx.reportQueue.length) (hport : t.headOnPort = true → s.headOnPort = true)
    (hpassed : t.port.passedOver ≤ s.port.passedOver) (hservice : t.service = s.service) : KeepsCapacities s t where
  capacity := by
    rintro ⟨hq, hr, hplace, hfaults, hoverrun, hp⟩
    rw [CapacityInv, hservice]
    exact ⟨hqueue.trans hq, hreports.trans hr, fun hon => hreports.trans_lt (hplace (hport hon)), hfaults, hoverrun,
      hpassed.trans hp⟩
  timers := by
    rw [TimersInv, TimersInv, hservice]
    exact id

/-- An operation goes on the port: an apply write, while the report queue has a place (R63, R141). -/
theorem putOnPort_capacity {s : State} {line : Line} {access : Access} {owner : Owner}
    (hplace : (s.putOnPort line access owner).headOnPort = true → s.rx.reportQueue.length < Config.reportQueueSize) :
    KeepsCapacities s (s.putOnPort line access owner) where
  capacity := fun ⟨hq, hr, _, hfaults, hoverrun, hp⟩ => ⟨hq, hr, hplace, hfaults, hoverrun, hp⟩
  timers := id

theorem withPassedOver_capacity (s : State) {n : Nat} (hn : n ≤ Config.passedOverLimit) :
    KeepsCapacities s (s.withPassedOver n) where
  capacity := fun ⟨hq, hr, hplace, hfaults, hoverrun, _⟩ => ⟨hq, hr, hplace, hfaults, hoverrun, hn⟩
  timers := id

/-- The fault list keeps to its 8 records, with the overrun flag set only beside a record (R177, R178). -/
def Service.faultsFit (v : Service) : Prop :=
  v.faults.length ≤ Config.faultListSize ∧ (v.overrun = true → v.faults ≠ [])

/-- A record that finds the list full is dropped, and the list is not empty then (R177). -/
theorem Service.offer_fits {v : Service} (h : v.faultsFit) (r : FaultRecord) : (v.offer r).faultsFit := by
  unfold Service.offer
  split
  · rename_i hroom
    exact ⟨by simpa using hroom, fun _ => by simp⟩
  · rename_i hfull
    refine ⟨h.1, fun _ hnil => hfull ?_⟩
    have hnone : v.faults = [] := hnil
    rw [hnone]
    decide

theorem withFaults_capacity {s : State} {v : Service} (hfits : s.service.faultsFit → v.faultsFit)
    (htimers : v.timers = s.service.timers) : KeepsCapacities s (s.withService v) where
  capacity := by
    rintro ⟨hq, hr, hplace, hfaults, hoverrun, hp⟩
    obtain ⟨hfaults', hoverrun'⟩ := hfits ⟨hfaults, hoverrun⟩
    exact ⟨hq, hr, hplace, hfaults', hoverrun', hp⟩
  timers := by
    rw [TimersInv, TimersInv, State.withService_service, htimers]
    exact id

theorem offerFault_capacity (s : State) (k : FaultKind) (w : Option WinIdx) (l : Option Line) (q : Option Seq)
    (e : Option Epoch) : KeepsCapacities s (s.offerFault k w l q e) :=
  withFaults_capacity (fun h => Service.offer_fits h _) (by unfold Service.offer; split <;> rfl)

/-! ### Windows, dirty set and journal -/

theorem suspendWhere_capacity (s : State) (p : Window → Bool) (cause : SuspendCause) :
    KeepsCapacities s (s.suspendWhere p cause) := by
  rw [suspendWhere_eq]; exact ⟨id, id⟩

theorem suspendWindow_capacity (s : State) (w : WinIdx) (cause : SuspendCause) :
    KeepsCapacities s (s.suspendWindow w cause) := by
  rw [suspendWindow_eq]; exact ⟨id, id⟩

theorem markDirty_capacity (s : State) (w : WinIdx) (g : Nat) : KeepsCapacities s (s.markDirty w g) := by
  rw [markDirty_eq]; exact withDirty_capacity s _

theorem markWindow_capacity (s : State) (w : WinIdx) : KeepsCapacities s (s.markWindow w) := by
  rw [markWindow_eq]; exact withDirty_capacity s _

theorem markAll_capacity (s : State) : KeepsCapacities s s.markAll := by
  rw [markAll_eq]; exact withDirty_capacity s _

theorem sweepTest_capacity (s : State) (w : WinIdx) : KeepsCapacities s (s.sweepTest w) := .cond fun _ => ⟨id, id⟩

theorem discard_capacity (s : State) : KeepsCapacities s s.discard := by
  rw [discard_eq, answerTags_eq]; exact ⟨id, id⟩

theorem convert_capacity (s : State) : KeepsCapacities s s.convert := by
  rw [convert_eq]; exact (discard_capacity s).trans (withDirty_capacity _ _)

/-! ### What comes about at once -/

/-- The choice of a frame takes at most the oldest REPORT from its queue (R147). -/
theorem chooseFrame_reports (s : State) (probe : Bool) :
    (s.chooseFrame probe).rx.reportQueue.length ≤ s.rx.reportQueue.length := by
  cases hl : s.link.lane with
  | some f => rw [chooseFrame_busy probe hl]
  | none =>
    rcases sender_cases s with hin | hin | ⟨hr, hh⟩ | ⟨hr, hh⟩ | hq
    · rw [chooseFrame_source probe hl hin, State.sourceFrame]
      split
      · exact le_refl _
      · split <;> exact le_refl _
    · rw [chooseFrame_sink probe hl hin, State.sinkFrame]
      split
      · rename_i r rest _ hreports
        rw [hreports]
        exact Nat.le_succ _
      · exact le_refl _
      · split
        · exact le_refl _
        · split <;> exact le_refl _
    · rw [chooseFrame_hailSource probe hl hr hh]
      split <;> exact le_refl _
    · rw [chooseFrame_hailSink probe hl hr hh]
      split <;> exact le_refl _
    · rw [chooseFrame_quiet probe hq]

theorem chooseFrame_capacity (s : State) (probe : Bool) : KeepsCapacities s (s.chooseFrame probe) := by
  have hsame := chooseFrame_same s probe
  have hport : (s.chooseFrame probe).port = s.port := by rw [chooseFrame_eq]; rfl
  refine .of_fewer (le_of_eq (congrArg List.length hsame.applyQueue_eq)) (chooseFrame_reports s probe) ?_ ?_
    hsame.service_eq
  · rw [headOnPort_congr (congrArg MemoryPort.op hport)]
    exact id
  · rw [hport]

theorem enterHail_capacity (s : State) : KeepsCapacities s s.enterHail := by
  rw [enterHail_eq]; exact withLink_capacity s _

theorem settleWith_capacity (s : State) (probe : Bool) : KeepsCapacities s (s.settleWith probe) := by
  have hanswer (l : List QueuedRequest) (u : State) : KeepsCapacities u (State.answerHeads l u) := by
    rw [answerHeads_eq]; exact withHost_capacity u _
  have hstall (u : State) : KeepsCapacities u u.timeStall := by rw [timeStall_eq]; exact withJournal_capacity u _
  have hposition (u : State) : KeepsCapacities u u.choosePosition := by
    rw [choosePosition_eq]; exact withSweep_capacity u _
  have hpassed (u : State) : KeepsCapacities u u.clearPassedOver :=
    .ite (fun _ => .refl u) fun _ => withPassedOver_capacity u (Nat.zero_le _)
  exact (enterHail_capacity s).trans ((hanswer _ _).trans ((chooseFrame_capacity _ _).trans
    ((hstall _).trans ((hposition _).trans (hpassed _)))))

theorem settle_capacity (s : State) : KeepsCapacities s s.settle := settleWith_capacity s false

/-! ### Link loss and role changes -/

/-- Link loss on a SINK empties the report queue (R149). -/
theorem sinkLoss_capacity (s : State) : KeepsCapacities s s.sinkLoss :=
  .of_fewer (le_refl _) (Nat.zero_le _) id (le_refl _) rfl

theorem linkLoss_capacity (s : State) (cause : SuspendCause) : KeepsCapacities s (s.linkLoss cause) := by
  have hleave : KeepsCapacities s (s.leaveLink.raise .linkDown) :=
    (withLink_capacity s _).trans (raise_capacity _ .linkDown)
  refine .cond fun _ => hleave.trans ?_
  cases s.role with
  | source => exact (suspendWhere_capacity _ _ cause).trans ((convert_capacity _).trans (withSeq_capacity _ _))
  | sink => exact sinkLoss_capacity _
  | isolated | draining => exact .refl _

theorem linkUp_capacity (s : State) : KeepsCapacities s s.linkUp := .ite (fun _ => ⟨id, id⟩) fun _ => ⟨id, id⟩

theorem hailHello_capacity (s : State) (h : Hello) : KeepsCapacities s (s.hailHello h) := by
  have hadopt (e : Epoch) (b : Seq) : KeepsCapacities s (s.adopt e b) := by
    have hbefore : KeepsCapacities s ((s.withLink { s.link with epoch := e }).withRx
        { s.rx with
          expected := b, lastApplied := b - 1, applyFaults := 0, nakOutstanding := false, nakSlot := none
          ackPending := false }) := ⟨id, id⟩
    have hafter (u : State) : KeepsCapacities u (u.withRx { u.rx with replyOwed := true }) := ⟨id, id⟩
    exact hbefore.trans ((linkUp_capacity _).trans (hafter _))
  have hclash (e : Epoch) : KeepsCapacities s (s.enterClash e) :=
    (withLink_capacity s _).trans ((raise_capacity _ _).trans (offerFault_capacity _ _ _ _ _ _))
  unfold State.hailHello
  split
  · exact .cond fun _ => linkUp_capacity s
  · exact hclash _
  · exact .cond fun _ => hadopt _ _
  all_goals exact .refl s

theorem changeRole_capacity (s : State) (new : Role) : KeepsCapacities s (s.changeRole new) := by
  have hconvert {u : State} (h : KeepsCapacities s u) :
      KeepsCapacities s (if s.role = .source ∧ new = .isolated then u.convert else u) :=
    h.trans (.cond fun _ => convert_capacity u)
  have hlink : KeepsCapacities s (s.roleLink new) := by
    unfold State.roleLink
    cases s.link.state with
    | up => exact hconvert (linkLoss_capacity s .role)
    | hail | clash => exact hconvert (withLink_capacity s _)
    | down => exact hconvert (.refl s)
  have hwindows (u : State) (old : Role) : KeepsCapacities u (u.roleWindows old new) :=
    .ite (fun _ => suspendWhere_capacity u _ _) fun _ => .cond fun _ => suspendWhere_capacity u _ _
  have hdirty (u : State) (old : Role) : KeepsCapacities u (u.roleDirty old new) :=
    .ite (fun _ => withDirty_capacity u _) fun _ => .cond fun _ => markAll_capacity u
  have hoverride (u : State) : KeepsCapacities u (u.withService { u.service with override := false }) := ⟨id, id⟩
  exact hlink.trans ((withRole_capacity _ _).trans ((hwindows _ s.role).trans ((hdirty _ s.role).trans
    ((hoverride _).trans (settle_capacity _)))))

theorem drainCheck_capacity (s : State) : KeepsCapacities s s.drainCheck :=
  .cond fun _ => (changeRole_capacity s .source).trans (raise_capacity _ _)

/-- A warm reset empties the two queues and overtakes the apply write on the port (R75, R151, R181). -/
theorem warmReset_capacity (s : State) : KeepsCapacities s s.warmReset := by
  have hoff : s.warmBlocks.headOnPort = false := by
    rw [warmBlocks_eq, State.headOnPort]
    rcases s.port.op with _ | ⟨line, access, owner⟩
    · rfl
    · cases owner <;> rfl
  have hoverride : KeepsCapacities s (s.withService { s.service with override := false }) := ⟨id, id⟩
  have hblocks : KeepsCapacities (s.withService { s.service with override := false }) s.warmBlocks := by
    have hoff' : s.warmBlocks.headOnPort = true → s.headOnPort = true := fun hon => nomatch hoff.symm.trans hon
    rw [warmBlocks_eq] at hoff' ⊢
    exact .of_fewer (Nat.zero_le _) (Nat.zero_le _) hoff' (Nat.zero_le _) rfl
  have hevents (u : State) : KeepsCapacities u (u.withService { u.service with events := 0 }) := ⟨id, id⟩
  exact hoverride.trans (hblocks.trans ((settle_capacity _).trans (hevents _)))

/-- The cold reset values are within the capacities, and the settings among them legal (R173, R182). -/
theorem cold_capacity (s t : State) (pin : Bool) : KeepsCapacities s (t.cold pin) where
  capacity := fun _ => ⟨Nat.zero_le _, Nat.zero_le _, nofun, Nat.zero_le _, nofun, Nat.zero_le _⟩
  timers := fun _ => (by decide : Timers.reset.inRange = true ∧ Timers.reset.ordered = true)

/-! ### The apply engine -/

/-- A REPORT joins the report queue, which has a place for it, while no apply write is on the port (R143, R144). -/
theorem addReport_capacity {s u : State} (h : KeepsCapacities s u) (n : BitVec 16) (r : Report)
    (hplace : CapacityInv s → u.rx.reportQueue.length < Config.reportQueueSize) (hoff : u.headOnPort = false) :
    KeepsCapacities s (u.withRx { u.rx with applyFaults := n, reportQueue := u.rx.reportQueue ++ [r] }) := by
  refine ⟨fun hs => ?_, h.timers⟩
  obtain ⟨hq, -, -, hfaults, hoverrun, hp⟩ := h.capacity hs
  have hlength : (u.rx.reportQueue ++ [r]).length ≤ Config.reportQueueSize := by simpa using hplace hs
  exact ⟨hq, hlength, fun hon => absurd (hoff.symm.trans hon) (by decide), hfaults, hoverrun, hp⟩

/-- A fault of the apply engine queues at most one REPORT (R143). -/
theorem applyFault_capacity {s u : State} (h : KeepsCapacities s u) (e : ApplyEntry) (kind : ApplyFault)
    (window : Option WinIdx) (hplace : CapacityInv s → u.rx.reportQueue.length < Config.reportQueueSize)
    (hoff : u.headOnPort = false) : KeepsCapacities s (u.applyFault e kind window) := by
  have hoffer := h.trans ((offerFault_capacity u (applyFaultKind kind) window (some e.target) (some e.seq)
    (some e.epoch)).trans (raise_capacity _ .applyFault))
  exact .ite (fun _ => addReport_capacity hoffer _ _ hplace hoff) fun _ => hoffer

/-- An entry is finished while it is off the port and the report queue has a place for the REPORT of a fault (R141,
R142). -/
theorem finishEntry_capacity {s u : State} (h : KeepsCapacities s u) (e : ApplyEntry) (how : Finish)
    (hplace : CapacityInv s → u.rx.reportQueue.length < Config.reportQueueSize) (hoff : u.headOnPort = false) :
    KeepsCapacities s (u.finishEntry e how) := by
  have hleft : KeepsCapacities s (u.withRx { u.rx with applyQueue := u.rx.applyQueue.tail }) :=
    h.trans (.of_fewer (by simp) (le_refl _) id (le_refl _) rfl)
  have hmoved (v : State) : KeepsCapacities v (v.moveApplied e) := .cond fun _ => ⟨id, id⟩
  cases how with
  | written =>
    have hcount (v : State) : KeepsCapacities v (v.countApplied e) := .ite (fun _ => ⟨id, id⟩) fun _ => ⟨id, id⟩
    exact hleft.trans ((hcount _).trans (hmoved _))
  | unwritten => exact hleft.trans (hmoved _)
  | fault kind window => exact (applyFault_capacity hleft e kind window hplace hoff).trans (hmoved _)

/-- The examination finishes an entry only while the report queue has a place (R140). -/
theorem examine_capacity (s : State) : KeepsCapacities s s.examine := by
  have hfrom (l : List ApplyEntry) (u : State) : KeepsCapacities u (State.examineFrom l u) := by
    induction l generalizing u with
    | nil => exact .refl u
    | cons e l ih =>
      refine .ite (fun _ => .refl u) fun hstays => ?_
      obtain ⟨hoff, hplace⟩ := not_or.1 hstays
      have hfinish (how : Finish) : KeepsCapacities u (State.examineFrom l (u.finishEntry e how)) :=
        (finishEntry_capacity (.refl u) e how (fun _ => Nat.lt_of_not_le hplace) (by simpa using hoff)).trans (ih _)
      refine .ite (fun _ => hfinish _) fun _ => ?_
      split
      · exact .refl u
      · exact hfinish _
  exact hfrom _ s

theorem examineNow_capacity (s : State) : KeepsCapacities s s.examineNow :=
  .cond fun _ => (examine_capacity s).trans ((drainCheck_capacity _).trans (settle_capacity _))

/-! ### Grants -/

theorem grantHost_capacity (s : State) (r : QueuedRequest) (rest : List QueuedRequest) :
    KeepsCapacities s (s.grantHost r rest) := by
  have htaken : KeepsCapacities s (s.headTaken rest) := (withHost_capacity s _).trans (withJournal_capacity _ _)
  have hput (u : State) (access : Access) (grant : HostGrant) :
      KeepsCapacities u (u.putOnPort r.line access (.host (some r.tag) grant)) := putOnPort_capacity nofun
  have hcapture (u : State) (w : WinIdx) (mask : Mask) (data : LineData) (poisoned : Bool) :
      KeepsCapacities u (u.capture w r.line mask data poisoned) :=
    .ite (fun _ => withJournal_capacity u _) fun _ => withJournal_capacity u _
  refine htaken.trans ?_
  unfold State.grantHost
  simp only
  split
  · exact hput _ _ _
  · split
    · exact hput _ _ _
    · exact hput _ _ _
    · exact (markDirty_capacity _ _ _).trans (hput _ _ _)
    · exact (hcapture _ _ _ _ _).trans (hput _ _ _)

/-- The apply head is granted only while it is a candidate, and so the report queue has a place (R140, R141). -/
theorem grantApply_capacity {s : State} (h : s.applyCandidate = true) (e : ApplyEntry) :
    KeepsCapacities s (s.grantApply e) := by
  obtain ⟨-, -, -, -, hplace, -⟩ := (applyCandidate_iff s).1 h
  have hclassify : KeepsCapacities s (s.classifyApply e.target) := by
    refine .cond fun _ => ?_
    split
    · exact .refl s
    · exact .ite (fun _ => (suspendWindow_capacity s _ _).trans (markDirty_capacity _ _ _)) fun _ =>
        markDirty_capacity s _ _
  refine hclassify.trans (putOnPort_capacity fun _ => ?_)
  rw [(classifyApply_kept s e.target).rx]
  exact hplace

theorem grantTo_capacity {s : State} {g : Grantee} (h : s.requests g) : KeepsCapacities s (s.grantTo g) := by
  cases g with
  | host =>
    obtain ⟨r, rest, hq, -⟩ := head_of_condition h
    rw [grantTo_host hq]
    exact grantHost_capacity s r rest
  | sweep =>
    obtain ⟨-, hsweep⟩ := h
    obtain ⟨-, ⟨p, hp⟩, -⟩ := (sweepCandidate_iff s).1 hsweep
    rw [grantTo_sweep hp]
    exact (withSweep_capacity s _).trans (putOnPort_capacity nofun)
  | apply =>
    obtain ⟨e, rest, hq, -⟩ := (applyCandidate_iff s).1 h
    rw [grantTo_apply hq]
    exact grantApply_capacity h e

/-- The passed-over count rises only below its limit (R70, R71). -/
theorem arbiterChoice_passedOver {s : State} {g : Grantee} {n : Nat} (h : s.arbiterChoice = some (g, n)) :
    n ≤ Config.passedOverLimit := by
  have hnext : n = 0 ∨ n = s.port.passedOver + 1 ∧ s.port.passedOver < Config.passedOverLimit := by
    unfold State.arbiterChoice at h
    grind
  omega

theorem grantNow_capacity (s : State) : KeepsCapacities s s.grantNow := by
  refine .ite (fun _ => .refl s) fun _ => ?_
  split
  · exact .refl s
  · rename_i g n hchoice
    exact (grantTo_capacity (arbiterChoice_requests hchoice)).trans
      ((withPassedOver_capacity _ (arbiterChoice_passedOver hchoice)).trans (settle_capacity _))

theorem prompt_capacity (s : State) : KeepsCapacities s s.prompt := by
  have hall (n : Nat) (u : State) : KeepsCapacities u (State.examineAll n u) := by
    induction n generalizing u with
    | zero => exact .refl u
    | succ n ih => exact .cond fun _ => (examineNow_capacity u).trans (ih _)
  exact .ite (fun _ => .refl s) fun _ => (hall _ s).trans (grantNow_capacity _)

end Sys2Proof.Machine
end

section
/-! Every command keeps the capacities and the timer settings, and so does every step. -/

namespace Sys2Proof.Machine

/-- An effect that keeps the capacities, settled and answered DONE. -/
theorem settleDone_capacity {s t : State} (echo code : Byte) (l : List Byte) (h : KeepsCapacities s t) :
    KeepsCapacities s (t.settle.replyDone echo code l) :=
  h.trans ((settle_capacity t).trans (replyDone_capacity _ _ _ _))

/-! ### Completions -/

theorem idlePort_capacity (s : State) : KeepsCapacities s s.idlePort :=
  .of_fewer (le_refl _) (le_refl _) nofun (le_refl _) rfl

theorem answerPort_capacity (s : State) (tag : Option Tag) (st : HostStatus) (d : Option ReadData) :
    KeepsCapacities s (s.answerPort tag st d) := by
  unfold State.answerPort
  split
  · exact .refl s
  · exact withHost_capacity s _

theorem completeCapture_capacity (s : State) (tag : Option Tag) (cls : CommitClass) (q : Seq) (poisoned : Bool)
    (c : Completion) : KeepsCapacities s (s.completeCapture tag cls q poisoned c) := by
  have hclose (ok : Bool) (t : Option Tag) : KeepsCapacities s (s.closeEntry q ok t) := withJournal_capacity s _
  refine .ite (fun _ => ?_) fun _ => (hclose _ _).trans (answerPort_capacity _ _ _ _)
  split
  · exact hclose _ _
  · exact .ite (fun _ => (hclose _ _).trans (withHost_capacity _ _)) fun _ => withHost_capacity s _

theorem completeHost_capacity (s : State) (o : Operation) (tag : Option Tag) (grant : HostGrant) (c : Completion) :
    KeepsCapacities s (s.completeHost o tag grant c) := by
  unfold State.completeHost
  cases o.access with
  | read => cases c <;> exact answerPort_capacity s _ _ _
  | write mask data poisoned =>
    cases grant with
    | capture cls q => exact completeCapture_capacity s tag cls q poisoned c
    | read | pass | track => exact answerPort_capacity s _ _ _

theorem completeSweep_capacity (s : State) (w : WinIdx) (line : Line) (current : Bool) (c : Completion) :
    KeepsCapacities s (s.completeSweep w line current c) := by
  have hfault :
      KeepsCapacities s (if completionOk c then s else s.offerFault .memoryError (some w) (some line) none none) :=
    .ite (fun _ => .refl s) fun _ => offerFault_capacity s _ _ _ _ _
  have hadvance (u : State) : KeepsCapacities u (u.advanceSweep w) := by
    unfold State.advanceSweep
    split
    · exact .refl u
    · exact .ite
        (fun _ => (withDirty_capacity u _).trans ((withSweep_capacity _ _).trans (sweepTest_capacity _ w)))
        fun _ => withSweep_capacity u _
  exact .ite (fun _ => hfault.trans ((withJournal_capacity _ _).trans (.cond fun _ => hadvance _))) fun _ => hfault

/-- The apply write that completes had a place in the report queue while it was on the port (R141, R143). -/
theorem completeApply_capacity {s : State} (hon : s.headOnPort = true) (e : ApplyEntry) (window : Option WinIdx)
    (c : Completion) : KeepsCapacities s (s.idlePort.completeApply e window c) :=
  (finishEntry_capacity (idlePort_capacity s) e _ (fun ⟨_, _, hplace, _⟩ => hplace hon) rfl).trans
    ((examine_capacity _).trans (drainCheck_capacity _))

theorem completeFor_capacity {s : State} {o : Operation} (ho : s.port.op = some o) (c : Completion) :
    KeepsCapacities s (s.idlePort.completeFor o c) := by
  unfold State.completeFor
  cases hw : o.owner with
  | host tag grant => exact (idlePort_capacity s).trans (completeHost_capacity _ _ _ _ _)
  | sweep w discarded =>
    exact (idlePort_capacity s).trans ((withSweep_capacity _ _).trans
      (.ite (fun _ => .refl _) fun _ => completeSweep_capacity _ _ _ _ _))
  | apply e window discarded =>
    cases discarded with
    | true => exact idlePort_capacity s
    | false =>
      refine completeApply_capacity ?_ e window c
      obtain ⟨line, access, owner⟩ := o
      subst hw
      rw [State.headOnPort, ho]
      rfl

/-! ### Timers -/

theorem expireStall_capacity (s : State) : KeepsCapacities s s.expireStall := by
  have hsuspend (w : WinIdx) (line : Line) : KeepsCapacities s (s.overflowSuspend w line) :=
    (suspendWhere_capacity s Window.capturing .overflow).trans
      ((offerFault_capacity _ _ _ _ _ _).trans ((raise_capacity _ _).trans (count_capacity _ _)))
  refine .cond fun _ => ?_
  split
  · exact .refl s
  · split
    · exact (hsuspend _ _).trans (settle_capacity _)
    all_goals exact .refl s

theorem expireHold_capacity (s : State) (tag : Tag) : KeepsCapacities s (s.expireHold tag) := by
  have hrelease (q : Seq) : KeepsCapacities s ((s.answerHeld tag .unmirrored).releaseTag q tag) :=
    (withHost_capacity s _).trans (withJournal_capacity _ _)
  refine .cond fun _ => ?_
  split
  · exact .refl s
  · exact (hrelease _).trans ((raise_capacity _ _).trans ((count_capacity _ _).trans (settle_capacity _)))

theorem askRewind_capacity (s : State) (k : Nat) : KeepsCapacities s (s.askRewind k) :=
  .ite (fun _ => (withJournal_capacity s _).trans ((withSeq_capacity _ _).trans (count_capacity _ _))) fun _ =>
    (offerFault_capacity s _ _ _ _ _).trans (linkLoss_capacity _ _)

theorem expireTimer_capacity (s : State) (n : TimerName) : KeepsCapacities s (s.expireTimer n) := by
  cases n with
  | ack => exact .cond fun _ => (askRewind_capacity s 0).trans (settle_capacity _)
  | probe => exact .cond fun _ => (chooseFrame_capacity s true).trans (settle_capacity _)
  | quiet => exact .cond fun _ => (linkLoss_capacity s .link).trans (settle_capacity _)
  | stall => exact expireStall_capacity s
  | held => exact .foldl expireHold_capacity _ s

theorem expireDueTimers_capacity (s : State) : KeepsCapacities s s.expireDueTimers :=
  .ite (fun _ => .foldl expireTimer_capacity _ s) fun _ =>
    (KeepsCapacities.foldl expireTimer_capacity _ s).trans (withFreeCount_capacity _ _)

/-- SET_TIMERS takes legal settings alone (R173). -/
theorem setTimers_capacity (s : State) (echo : Byte) (t : Timers) : KeepsCapacities s (s.setTimers echo t) := by
  refine .ite (fun _ => reply_capacity s _ _ _ _ _) fun hrange => .ite (fun _ => reply_capacity s _ _ _ _ _) fun horder =>
    .ite (fun _ => replyDone_capacity s _ _ _) fun _ => ?_
  have hset : KeepsCapacities s (s.withTimers t) := ⟨id, fun _ => ⟨eq_true_of_ne_false hrange, eq_true_of_ne_false horder⟩⟩
  exact hset.trans ((expireDueTimers_capacity _).trans (replyDone_capacity _ _ _ _))

/-! ### Frames received -/

theorem noteReceipt_capacity (s : State) : KeepsCapacities s s.noteReceipt := .cond fun _ => withLink_capacity s _

/-- A frame is noted and, where it counts, acted on and settled (R100). -/
theorem receive_capacity (s : State) {c : Prop} [Decidable c] {t : State} (ht : KeepsCapacities s.noteReceipt t) :
    KeepsCapacities s (if s.receives then if c then t.settle else s.noteReceipt else s) :=
  .cond fun _ => (noteReceipt_capacity s).trans (.cond fun _ => ht.trans (settle_capacity _))

theorem placeNak_capacity (s : State) (reason : NakReason) : KeepsCapacities s (s.withRx (s.rx.placeNak reason)) := by
  unfold Receiver.placeNak
  split <;> exact ⟨id, id⟩

/-- An entry joins the apply queue only while it holds fewer than 48 (R134, R138). -/
theorem checkFrame_capacity (s : State) (f : DataFrame) : KeepsCapacities s (s.withRx (s.rx.checkFrame f)) := by
  unfold Receiver.checkFrame
  split
  · split
    · rename_i hroom
      refine ⟨fun ⟨_, hr, hplace, hfaults, hoverrun, hp⟩ => ⟨?_, hr, hplace, hfaults, hoverrun, hp⟩, id⟩
      rw [State.withRx_rx, List.length_append]
      exact hroom
    · exact ⟨id, id⟩
  · split
    · exact ⟨id, id⟩
    · exact placeNak_capacity s .gap

theorem bogus_capacity (s : State) (q : Seq) : KeepsCapacities s (s.bogus q) :=
  (offerFault_capacity s _ _ _ _ _).trans (linkLoss_capacity _ _)

theorem acknowledgeEntry_capacity (s : State) (e : JournalEntry) : KeepsCapacities s (s.acknowledgeEntry e) := by
  have hanswer (st : HostStatus) : KeepsCapacities s (s.answerTags e.heldTags st) := by
    rw [answerTags_eq]; exact withHost_capacity s _
  have hmark (u : State) (x : Sequencer) :
      KeepsCapacities u (if e.kind = .mark then (u.withSeq x).raise .markConfirmed else u) :=
    .cond fun _ => (withSeq_capacity u x).trans (raise_capacity _ _)
  have hsweep (u : State) : KeepsCapacities u (if e.kind = .sweep then u.sweepTest e.window else u) :=
    .cond fun _ => sweepTest_capacity u _
  exact (hanswer _).trans ((hmark _ _).trans ((hsweep _).trans
    (count_capacity _ fun t => { t with entriesAcked := countUp t.entriesAcked })))

theorem acknowledge_capacity (n : Nat) (s : State) : KeepsCapacities s (State.acknowledge n s) := by
  induction n generalizing s with
  | zero => exact .refl s
  | succ n ih =>
    unfold State.acknowledge
    split
    · exact .refl s
    · exact (withJournal_capacity s _).trans ((acknowledgeEntry_capacity _ _).trans (ih _))

theorem reconcile_capacity (s : State) (f q : Seq) : KeepsCapacities s (s.reconcile f q) :=
  .cond fun _ => (suspendWhere_capacity s Window.enabled .missingReport).trans ((markAll_capacity _).trans
    ((withSeq_capacity _ _).trans ((offerFault_capacity _ _ _ _ _ _).trans (raise_capacity _ _))))

theorem takeAck_capacity (s : State) (q f : Seq) : KeepsCapacities s (s.takeAck q f) := by
  unfold State.takeAck
  split
  · exact reconcile_capacity s f q
  · rename_i k _
    exact (acknowledge_capacity (k + 1) s).trans ((withSeq_capacity _ _).trans (reconcile_capacity _ f q))
  all_goals exact bogus_capacity s q

theorem takeNak_capacity (s : State) (q : Seq) : KeepsCapacities s (s.takeNak q) := by
  unfold State.takeNak
  split
  · exact askRewind_capacity s _
  · exact .refl s
  all_goals exact bogus_capacity s q

theorem takeReport_capacity (s : State) (r : Report) : KeepsCapacities s (s.takeReport r) := by
  have hreported : KeepsCapacities s (s.markReported r.seq) := withJournal_capacity s _
  have hwindow (u : State) (a : Option (WinIdx × Nat)) : KeepsCapacities u (u.reportWindow a) := by
    unfold State.reportWindow
    split
    · exact .refl u
    · exact (suspendWindow_capacity u _ _).trans (markDirty_capacity _ _ _)
  exact hreported.trans ((hwindow _ _).trans ((withSeq_capacity _ _).trans
    ((offerFault_capacity _ _ _ _ _ _).trans (raise_capacity _ _))))

theorem upHello_capacity (s : State) (h : Hello) : KeepsCapacities s (s.upHello h) :=
  (linkLoss_capacity s .link).trans ((enterHail_capacity _).trans (.cond fun _ => hailHello_capacity _ h))

theorem signalLost_capacity (s : State) : KeepsCapacities s s.signalLost := by
  unfold State.signalLost
  split
  · exact .refl s
  · exact withLink_capacity s _
  · exact linkLoss_capacity s .link
  · exact .refl s

/-! ### The host port -/

theorem acceptRequest_capacity (s : State) (q : QueuedRequest) : KeepsCapacities s (s.acceptRequest q) := by
  have hpoison : KeepsCapacities s
      (if q.isPoisoned then s.offerFault .poisonWrite (s.owner q.line.granule) (some q.line) none none else s) :=
    .cond fun _ => offerFault_capacity s _ _ _ _ _
  exact hpoison.trans (withHost_capacity _ _)

theorem hostPortReset_capacity (s : State) : KeepsCapacities s s.hostPortReset :=
  .of_fewer (le_refl _) (le_refl _) (fun hon => (hostPortReset_headOnPort s).symm.trans hon) (le_refl _) rfl

/-! ### The service port -/

theorem setWindow_capacity (s : State) (echo : Byte) (a : SetWindowArgs) : KeepsCapacities s (s.setWindow echo a) := by
  have hrefuse (r : Reason) : KeepsCapacities s (s.refuse echo 2 r) := refuse_capacity s _ _ _
  unfold State.setWindow
  split
  · exact hrefuse _
  · refine .ite (fun _ => reply_capacity s _ _ _ _ _) fun _ => ?_
    split
    · exact .ite (fun _ => hrefuse _) fun _ => .ite (fun _ => hrefuse _) fun _ => .ite (fun _ => hrefuse _) fun _ =>
        (withWindows_capacity s _).trans (replyDone_capacity _ _ _ _)
    · exact hrefuse _
    · exact hrefuse _

theorem tryEnable_capacity (s : State) (echo : Byte) (n : Nat) : KeepsCapacities s (s.tryEnable echo n) := by
  have hrefuse (r : Reason) : KeepsCapacities s (s.refuse echo 4 r) := refuse_capacity s _ _ _
  have henable (w : WinIdx) : KeepsCapacities s (s.enableWindow w) :=
    .ite (fun _ => (withWindows_capacity s _).trans (markWindow_capacity _ w)) fun _ => withWindows_capacity s _
  unfold State.tryEnable
  split
  · exact hrefuse _
  · exact .ite (fun _ => replyDone_capacity s _ _ _) fun _ => .ite (fun _ => hrefuse _) fun _ =>
      .ite (fun _ => hrefuse _) fun _ => .ite (fun _ => hrefuse _) fun _ => settleDone_capacity _ _ _ (henable _)

theorem disableWindow_capacity (s : State) (w : WinIdx) : KeepsCapacities s (s.disableWindow w) := by
  rw [disableWindow_eq]
  exact (withWindows_capacity s _).trans ((withDirty_capacity _ _).trans (withSweep_capacity _ _))

theorem tryStartSweep_capacity (s : State) (echo : Byte) (n scope : Nat) :
    KeepsCapacities s (s.tryStartSweep echo n scope) := by
  have hrefuse (r : Reason) : KeepsCapacities s (s.refuse echo 6 r) := refuse_capacity s _ _ _
  have hstart (w : WinIdx) (full : Bool) : KeepsCapacities s (s.startSweep w full) := by
    have hmark : KeepsCapacities s (if full then s.markWindow w else s) := .cond fun _ => markWindow_capacity s w
    exact hmark.trans ((withWindows_capacity _ _).trans (sweepTest_capacity _ w))
  unfold State.tryStartSweep
  split
  · refine .ite (fun _ => hrefuse _) fun _ => .ite (fun _ => hrefuse _) fun _ => ?_
    split
    · exact hrefuse _
    · exact replyDone_capacity s _ _ _
    · exact replyDone_capacity s _ _ _
    · exact settleDone_capacity _ _ _ (hstart _ _)
  · exact hrefuse _
  · exact hrefuse _

theorem tryPause_capacity (s : State) (echo : Byte) (n : Nat) : KeepsCapacities s (s.tryPause echo n) := by
  unfold State.tryPause
  split
  · exact refuse_capacity s _ _ _
  · split
    · exact refuse_capacity s _ _ _
    · exact replyDone_capacity s _ _ _
    all_goals exact settleDone_capacity _ _ _ (suspendWindow_capacity s _ _)

theorem assumeSource_capacity (s : State) (echo : Byte) : KeepsCapacities s (s.assumeSource echo) := by
  refine .ite (fun _ => reply_capacity s _ _ _ _ _) fun _ => ?_
  split
  · exact (changeRole_capacity s .source).trans (replyDone_capacity _ _ _ _)
  · exact replyDone_capacity s _ _ _
  · exact (changeRole_capacity s .draining).trans ((drainCheck_capacity _).trans (reply_capacity _ _ _ _ _ _))
  · exact reply_capacity s _ _ _ _ _

theorem assumeSink_capacity (s : State) (echo : Byte) (force : Bool) : KeepsCapacities s (s.assumeSink echo force) := by
  have hsink (u : State) : KeepsCapacities u ((u.changeRole .sink).replyDone echo 9 []) :=
    (changeRole_capacity u .sink).trans (replyDone_capacity _ _ _ _)
  refine .ite (fun _ => reply_capacity s _ _ _ _ _) fun _ => ?_
  split
  · exact hsink s
  · exact .ite (fun _ => hsink s) fun _ =>
      .ite (fun _ => (discard_capacity s).trans (hsink _)) fun _ => refuse_capacity s _ _ _
  · exact replyDone_capacity s _ _ _
  · exact reply_capacity s _ _ _ _ _

theorem setOverride_capacity (s : State) (echo : Byte) (v : Option Bool) :
    KeepsCapacities s (s.setOverride echo v) := by
  unfold State.setOverride
  split
  · exact refuse_capacity s _ _ _
  · exact .ite (fun _ => replyDone_capacity s _ _ _) fun _ => settleDone_capacity _ _ _ ⟨id, id⟩

/-- READ_FAULT clears the overrun flag with the last record (R178). -/
theorem readFault_capacity (s : State) (echo : Byte) : KeepsCapacities s (s.readFault echo) := by
  unfold State.readFault
  split
  · exact reply_capacity s _ _ _ _ _
  · rename_i r rest hlist
    have hfits (h : s.service.faultsFit) : Service.faultsFit
        { s.service with faults := rest, overrun := if rest = [] then false else s.service.overrun } := by
      obtain ⟨hsize, -⟩ := h
      rw [hlist] at hsize
      refine ⟨(Nat.le_succ _).trans hsize, fun hoverrun hnil => ?_⟩
      have hclear : (if rest = [] then false else s.service.overrun) = true := hoverrun
      rw [if_pos hnil] at hclear
      exact nomatch hclear
    exact (withFaults_capacity hfits rfl).trans (replyDone_capacity _ _ _ _)

theorem linkTest_capacity (s : State) (echo : Byte) (n : Nat) : KeepsCapacities s (s.linkTest echo n) :=
  .ite (fun _ => refuse_capacity s _ _ _) fun _ => .ite (fun _ => refuse_capacity s _ _ _) fun _ =>
    .ite (fun _ => reply_capacity s _ _ _ _ _) fun _ => (withLink_capacity s _).trans (reply_capacity _ _ _ _ _ _)

/-! ### Every command and every step -/

/-- The command answers a next state, which is within the capacities and has legal timer settings if `s` is and has. -/
def CapacityOutcome (s : State) (o : Host.Outcome State Fault Refusal) : Prop := ∃ t, o = .next t ∧ KeepsCapacities s t

theorem CapacityOutcome.of_keeps {s t : State} (h : KeepsCapacities s t) : CapacityOutcome s (.next t) := ⟨t, rfl, h⟩

theorem take_capacity (s : State) {f : State → State} (hf : ∀ u, KeepsCapacities u (f u)) :
    CapacityOutcome s (.next (s.take f)) :=
  .of_keeps (.ite (fun _ => .refl s) fun _ => (prompt_capacity s).trans (hf _))

theorem takeCommand_capacity (s : State) (echo code : Byte) (args : List Byte) {f : State → State}
    (hf : ∀ u, KeepsCapacities u (f u)) : CapacityOutcome s (.next (s.takeCommand echo code args f)) :=
  take_capacity s fun u => .ite (fun _ => hf u) fun _ => refuse_capacity u _ _ _

theorem coldReset_capacity (s : State) (edge : ColdPinEdge) : CapacityOutcome s (execColdReset edge s) := by
  cases edge with
  | asserted => exact .of_keeps (cold_capacity s _ true)
  | released signal =>
    exact .of_keeps (.ite (fun _ => (cold_capacity s s false).trans (withLink_capacity _ _)) fun _ => prompt_capacity s)

theorem memoryCompletion_capacity (s : State) (c : Completion) : CapacityOutcome s (execMemoryCompletion c s) := by
  refine take_capacity s fun u => ?_
  split
  · exact .refl u
  · exact (completeFor_capacity ‹_› c).trans (settle_capacity _)

/-- Every command answers a next state, and keeps the capacities and the timer settings. -/
theorem exec_capacity (i : Instr) (s : State) : CapacityOutcome s (exec i s) := by
  cases i with
  | hostRequest r =>
    exact take_capacity s fun u => .ite (fun _ => .refl u) fun _ => .ite (fun _ => offerFault_capacity u _ _ _ _ _)
      fun _ => (acceptRequest_capacity u _).trans (settle_capacity _)
  | hostPortReset =>
    exact .of_keeps (.ite (fun _ => withHost_capacity s _) fun _ => .ite (fun _ => prompt_capacity s) fun _ =>
      (prompt_capacity s).trans (hostPortReset_capacity _))
  | hostPortResetRelease => exact .of_keeps ((prompt_capacity s).trans (withHost_capacity _ _))
  | coldReset edge => exact coldReset_capacity s edge
  | portGrant => exact .of_keeps (prompt_capacity s)
  | memoryCompletion c => exact memoryCompletion_capacity s c
  | applyHeadExamine => exact .of_keeps (.ite (fun _ => .refl s) fun _ => examineNow_capacity s)
  | drainEnd => exact take_capacity s drainCheck_capacity
  | stallExpiry => exact take_capacity s expireStall_capacity
  | holdExpiry tag => exact take_capacity s fun u => expireHold_capacity u tag
  | ackTimerExpiry => exact take_capacity s fun u => expireTimer_capacity u .ack
  | probeIdleExpiry => exact take_capacity s fun u => expireTimer_capacity u .probe
  | silenceExpiry => exact take_capacity s fun u => expireTimer_capacity u .quiet
  | helloRepeat => exact take_capacity s fun u => .cond fun _ => (withLink_capacity u _).trans (settle_capacity _)
  | laneSignalChange signal =>
    refine take_capacity s fun u => .ite (fun _ => .refl u) fun _ => ?_
    cases signal with
    | absent => exact (withLink_capacity u _).trans ((signalLost_capacity _).trans (settle_capacity _))
    | present => exact (withLink_capacity u _).trans (settle_capacity _)
  | damagedFrame bytes =>
    exact take_capacity s fun u => .cond fun _ => (count_capacity u _).trans
      (.cond fun _ => (placeNak_capacity _ .damaged).trans (settle_capacity _))
  | receiveHello h =>
    refine take_capacity s fun u => .cond fun _ => ?_
    split
    · exact .refl u
    · exact (hailHello_capacity u h).trans (settle_capacity _)
    · exact .ite (fun _ => noteReceipt_capacity u) fun _ =>
        (noteReceipt_capacity u).trans ((upHello_capacity _ h).trans (settle_capacity _))
    · exact .refl u
  | receiveDataFrame f => exact take_capacity s fun u => receive_capacity u (checkFrame_capacity _ f)
  | receiveProbe epoch => exact take_capacity s fun u => receive_capacity u ⟨id, id⟩
  | receiveAck epoch q f => exact take_capacity s fun u => receive_capacity u (takeAck_capacity _ q f)
  | receiveNak epoch q reason => exact take_capacity s fun u => receive_capacity u (takeNak_capacity _ q)
  | receiveReport r => exact take_capacity s fun u => receive_capacity u (takeReport_capacity _ r)
  | receiveTestFrame pattern payload => exact take_capacity s fun u => .cond fun _ => noteReceipt_capacity u
  | frameEnd =>
    refine take_capacity s fun u => ?_
    split
    · exact .refl u
    · exact (withLink_capacity u _).trans (settleWith_capacity _ _)
  | testFrameReturn bytes =>
    refine take_capacity s fun u => ?_
    split
    · exact .refl u
    · exact .ite (fun _ => (withLink_capacity u _).trans (raise_capacity _ _)) fun _ => withLink_capacity u _
  | badMessage bytes =>
    exact take_capacity s fun u => .ite (fun _ => reply_capacity u _ _ _ _ _) fun _ => reply_capacity u _ _ _ _ _
  | unknownCommand echo code args => exact take_capacity s fun u => reply_capacity u _ _ _ _ _
  | getStatus echo args => exact takeCommand_capacity s _ _ _ fun u => replyDone_capacity u _ _ _
  | setWindow echo args => exact takeCommand_capacity s _ _ _ fun u => setWindow_capacity u _ _
  | getWindow echo args =>
    refine takeCommand_capacity s _ _ _ fun u => ?_
    split
    · exact refuse_capacity u _ _ _
    · exact replyDone_capacity u _ _ _
  | enableWindow echo args => exact takeCommand_capacity s _ _ _ fun u => tryEnable_capacity u _ _
  | disableWindow echo args =>
    refine takeCommand_capacity s _ _ _ fun u => ?_
    split
    · exact refuse_capacity u _ _ _
    · exact .ite (fun _ => settleDone_capacity _ _ _ (disableWindow_capacity u _)) fun _ => replyDone_capacity u _ _ _
  | startSweep echo args => exact takeCommand_capacity s _ _ _ fun u => tryStartSweep_capacity u _ _ _
  | pauseWindow echo args => exact takeCommand_capacity s _ _ _ fun u => tryPause_capacity u _ _
  | assumeSource echo args => exact takeCommand_capacity s _ _ _ fun u => assumeSource_capacity u _
  | assumeSink echo args =>
    refine takeCommand_capacity s _ _ _ fun u => ?_
    split
    · exact refuse_capacity u _ _ _
    · exact assumeSink_capacity u _ _
  | isolate echo args =>
    exact takeCommand_capacity s _ _ _ fun u => .ite (fun _ => replyDone_capacity u _ _ _) fun _ =>
      (changeRole_capacity u .isolated).trans (replyDone_capacity _ _ _ _)
  | setTimers echo args => exact takeCommand_capacity s _ _ _ fun u => setTimers_capacity u _ _
  | setMask echo args => exact takeCommand_capacity s _ _ _ fun u => ⟨id, id⟩
  | readEvents echo args => exact takeCommand_capacity s _ _ _ fun u => ⟨id, id⟩
  | readFault echo args => exact takeCommand_capacity s _ _ _ fun u => readFault_capacity u _
  | getMarks echo args => exact takeCommand_capacity s _ _ _ fun u => replyDone_capacity u _ _ _
  | setOverride echo args => exact takeCommand_capacity s _ _ _ fun u => setOverride_capacity u _ _
  | getStats echo args => exact takeCommand_capacity s _ _ _ fun u => replyDone_capacity u _ _ _
  | linkTest echo args => exact takeCommand_capacity s _ _ _ fun u => linkTest_capacity u _ _
  | restart echo args =>
    exact takeCommand_capacity s _ _ _ fun u => (warmReset_capacity u).trans (replyDone_capacity _ _ _ _)

/-- A step is a command on a state that differs in the model's own fields alone, or a tick. -/
theorem step_capacity {s t : State} (hstep : step s = .next t) : KeepsCapacities s t := by
  have hexec (i : Instr) {u : State} (hu : KeepsCapacities s u) (h : exec i u = .next t) : KeepsCapacities s t := by
    obtain ⟨t', ht', hkeeps⟩ := exec_capacity i u
    cases ht'.symm.trans h
    exact hu.trans hkeeps
  have hchosen : KeepsCapacities s s.chosen := .ite (fun _ => .refl s) fun _ => withFreeCount_capacity s _
  unfold step at hstep
  split at hstep
  · rename_i c rest _
    exact hexec c (u := s.withPending rest) ⟨id, id⟩ hstep
  · split at hstep
    · exact hexec _ hchosen hstep
    · injection hstep with hstep
      subst hstep
      exact .ite (fun _ => .refl s) fun _ => ⟨id, id⟩

/-- Settles O54: every command keeps the capacities and the timer settings; an apply write goes on the port only while the
report queue has a place, which its fault then takes. -/
theorem stepsKeepTheCapacities : Obligations.StepsKeepTheCapacities :=
  ⟨fun _ _ hs hstep => (step_capacity hstep).capacity hs, fun _ _ hs hstep => (step_capacity hstep).timers hs⟩

end Sys2Proof.Machine
end

section
/-! START_SWEEP: its six checks in their order, and what an accepted one does to the window and the dirty set. -/

namespace Sys2Proof.Machine

/-! ### The arguments -/

theorem argNat_pair_first (n c : Byte) : argNat [n, c] 0 1 = n.toNat := by simp [argNat, beNat]

theorem argNat_pair_second (n c : Byte) : argNat [n, c] 1 1 = c.toNat := by simp [argNat, beNat]

theorem boolArg_flag (on : Bool) : boolArg (if on then (1 : Byte) else 0).toNat = some on := by
  rw [← argNat_byte, boolArg_byte]

/-! ### The checks -/

theorem exec_startSweep {s : State} (echo n c : Byte) (h : Ready s) :
    exec (.startSweep echo [n, c]) s = .next (s.tryStartSweep echo n.toNat c.toNat) := by
  show Host.Outcome.next (s.takeCommand echo 6 [n, c] _) = _
  rw [takeCommand_taken echo 6 [n, c] _ h rfl, argNat_pair_first, argNat_pair_second]

/-- Checks 1 and 2 of R81: the window index and the scope. -/
theorem tryStartSweep_value (s : State) (echo : Byte) {n scope : Nat} (h : 15 < n ∨ 1 < scope) :
    s.tryStartSweep echo n scope = s.refuse echo 6 .value := by
  unfold State.tryStartSweep
  split
  · rename_i w full hn hscope
    rcases h with h | h
    · exact nomatch (windowArg_none h).symm.trans hn
    · exact nomatch (boolArg_gt h).symm.trans hscope
  · rfl
  · rfl

/-- Checks 3 to 6 of R81 in their order: the role, the link, and the state of the window. -/
theorem tryStartSweep_checked (s : State) (echo : Byte) {n scope : Nat} {w : WinIdx} {full : Bool}
    (hn : windowArg n = some w) (hscope : boolArg scope = some full) :
    s.tryStartSweep echo n scope =
      if s.role ≠ .source then s.refuse echo 6 .role
      else if s.link.state ≠ .up then s.refuse echo 6 .link
      else if s.windows[w].state = .off then s.refuse echo 6 .state
      else if s.windows[w].state = .suspended then (s.startSweep w full).settle.replyDone echo 6 []
      else s.replyDone echo 6 [] := by
  unfold State.tryStartSweep
  simp only [hn, hscope]
  cases s.windows[w].state <;> rfl

/-! ### The effect -/

/-- The window made SWEEPING, its granules marked under scope FULL: an accepted START_SWEEP up to the R12 test (R82). -/
def State.markedSweeping (s : State) (w : WinIdx) (full : Bool) : State :=
  (s.withWindows (s.windows.set w { s.windows[w] with state := .sweeping })).withDirty
    (if full then (s.markWindow w).dirty else s.dirty)

theorem startSweep_eq (s : State) (w : WinIdx) (full : Bool) :
    s.startSweep w full = (s.markedSweeping w full).sweepTest w := by
  unfold State.startSweep
  cases full with
  | false => rfl
  | true =>
    simp only [if_true]
    rw [markWindow_eq]
    rfl

theorem startSweep_dirty (s : State) (w : WinIdx) (full : Bool) :
    (s.startSweep w full).dirty = (s.markedSweeping w full).dirty := by
  rw [startSweep_eq, sweepTest_eq]
  rfl

theorem startSweep_sweep (s : State) (w : WinIdx) (full : Bool) : (s.startSweep w full).sweep = s.sweep := by
  rw [startSweep_eq, sweepTest_eq]
  rfl

theorem markedSweeping_get (s : State) (w : WinIdx) (full : Bool) :
    (s.markedSweeping w full).windows[w] = { s.windows[w] with state := .sweeping } :=
  Vector.getElem_set_self _

theorem mem_startSweep {s : State} {w : WinIdx} (hon : s.windows[w].state ≠ .off) (full : Bool) (g : Nat) :
    g ∈ (s.startSweep w full).dirty ↔
      g ∈ s.dirty ∨ (full = true ∧ s.windows[w].localBase ≤ g ∧ g < s.windows[w].localBase + s.windows[w].size) := by
  rw [startSweep_dirty, State.markedSweeping, State.withDirty_dirty]
  cases full with
  | false => simp
  | true => rw [if_pos rfl, mem_markWindow, localHas_iff, (enabled_iff _).2 hon]

/-- A window left with no dirty granule and no SWEEP entry is MIRRORING at once, with SWEEP_DONE (R12, R82). -/
theorem startSweep_clean {s : State} {w : WinIdx} {full : Bool}
    (hd : ∀ g ∈ (s.startSweep w full).dirty, s.windows[w].localHas g = false)
    (he : ∀ e ∈ s.journal.entries, e.kind = .sweep → e.window ≠ w) :
    s.startSweep w full =
      ((s.withWindows (s.windows.set w { s.windows[w] with state := .mirroring })).withDirty
        (s.startSweep w full).dirty).raise .sweepDone := by
  have hw := markedSweeping_get s w full
  have htwice : (s.markedSweeping w full).windows.set w { s.windows[w] with state := .mirroring } =
      s.windows.set w { s.windows[w] with state := .mirroring } :=
    Vector.set_set ..
  rw [startSweep_dirty] at hd ⊢
  have htest := sweepTest_clean (s.markedSweeping w full) w (by rw [hw]) (by rw [hw]; exact hd) he
  rw [hw] at htest
  rw [startSweep_eq, htest, htwice]
  rfl

/-- Any other window is left SWEEPING (R82). -/
theorem startSweep_unclean {s : State} {w : WinIdx} {full : Bool}
    (h : ¬ ((∀ g ∈ (s.startSweep w full).dirty, s.windows[w].localHas g = false) ∧
      ∀ e ∈ s.journal.entries, e.kind = .sweep → e.window ≠ w)) :
    s.startSweep w full =
      (s.withWindows (s.windows.set w { s.windows[w] with state := .sweeping })).withDirty
        (s.startSweep w full).dirty := by
  rw [startSweep_dirty] at h ⊢
  rw [startSweep_eq, sweepTest_other _ w]
  · rfl
  · rw [markedSweeping_get]
    exact fun hclean => h hclean.2

/-- Settles O17: the checks by their order, the effect by the R12 test on the marked dirty set, and then `settle`. -/
theorem startSweepChecksThenSweeps : Obligations.StartSweepChecksThenSweeps := by
  intro echo s hready
  refine ⟨fun n c hbad => ?_, fun w full => ?_⟩
  · rw [exec_startSweep echo n c hready, tryStartSweep_value s echo hbad]
    rfl
  simp only
  rw [exec_startSweep echo _ _ hready, tryStartSweep_checked s echo (windowArg_byte w) (boolArg_flag full)]
  refine ⟨fun hrole => ?_, fun hrole hlink => ?_, fun hrole hlink hoff => ?_, fun hrole hlink hcap => ?_,
    fun hrole hlink hsus => ?_⟩
  · rw [if_pos hrole]; rfl
  · rw [if_neg (not_not.2 hrole), if_pos hlink]; rfl
  · rw [if_neg (not_not.2 hrole), if_neg (not_not.2 hlink), if_pos hoff]; rfl
  · rw [if_neg (not_not.2 hrole), if_neg (not_not.2 hlink)]
    rcases hcap with h | h <;> rw [h] <;> rfl
  · have hon : s.windows[w].state ≠ .off := by rw [hsus]; decide
    rw [if_neg (not_not.2 hrole), if_neg (not_not.2 hlink), if_neg hon, if_pos hsus]
    have hsame := settle_same (s.startSweep w full)
    have hwin : ((s.startSweep w full).settle.replyDone echo 6 []).windows = (s.startSweep w full).windows :=
      (replyDone_windows _ _ _ _).trans hsame.windows_eq
    have hdirty : ((s.startSweep w full).settle.replyDone echo 6 []).dirty = (s.startSweep w full).dirty :=
      (replyDone_dirty _ _ _ _).trans hsame.dirty_eq
    refine ⟨_, rfl, fun g => ?_, fun clean hclean => ?_, fun p hp => ?_⟩
    · rw [hdirty]; exact mem_startSweep hon full g
    · rw [hdirty] at hclean
      rw [hwin, hdirty]
      have hdone := hsame.reply echo 6 .done .noReason []
      refine ⟨fun h => ?_, fun h => ?_⟩
      · obtain ⟨hd, he⟩ := hclean.1 h
        have heq := startSweep_clean hd he
        have hwindows := congrArg State.windows heq
        exact ⟨hwindows, by rw [hwindows]; exact heq ▸ hdone⟩
      · have heq := startSweep_unclean (mt hclean.2 h)
        have hwindows := congrArg State.windows heq
        exact ⟨hwindows, by rw [hwindows]; exact heq ▸ hdone⟩
    · exact settle_position_kept (by rw [startSweep_sweep]; exact hp)

end Sys2Proof.Machine
end

section
/-! What the link, the transmit sequencer, the receive checker and the loopback test record, through the operations that the
commands share. -/

namespace Sys2Proof.Machine

/-! ### The records -/

/-- The times of the Link Controller stand in the link states that measure them, and a SOURCE outside DOWN has an epoch other
than 0 (R102, R103, R109). -/
def LinkTimes (r : Role) (l : Link) : Prop :=
  (l.lastReceipt.isSome = true ↔ l.state = .up) ∧
    (l.lastHello.isSome = true ∨ l.helloDue = true → l.state = .hail) ∧ (r = .source → l.state ≠ .down → l.epoch ≠ 0)

/-- The times of the transmit sequencer stand in session, the ack start while an entry is SENT (R116, R120). -/
def SendTimes (s : State) : Prop :=
  (s.seq.lastSend.isSome = true ↔ s.inSession) ∧ (s.seq.ackStart.isSome = true ↔ 0 < s.journal.sentCount) ∧
    (0 < s.journal.sentCount → s.inSession)

/-- In a legal session the recorded times are those of the link and those of the sequencer. -/
theorem linkRecordInv_iff {s : State} (hs : SessionInv s) : LinkRecordInv s ↔ LinkTimes s.role s.link ∧ SendTimes s := by
  have hsent (h : 0 < s.journal.sentCount) : s.inSession := by
    refine hs.2.2 fun hnil => ?_
    rw [Journal.sentCount, hnil] at h
    exact nomatch h
  constructor
  · rintro ⟨hreceipt, hhello, hsend, hack, hepoch⟩
    exact ⟨⟨hreceipt, hhello, hepoch⟩, hsend, hack, hsent⟩
  · rintro ⟨⟨hreceipt, hhello, hepoch⟩, hsend, hack, -⟩
    exact ⟨hreceipt, hhello, hsend, hack, hepoch⟩

/-- Outside a session the sequencer times nothing and no entry is SENT. -/
theorem sendTimes_idle {s : State} (h : ¬ s.inSession) :
    SendTimes s ↔ s.seq.lastSend = none ∧ s.seq.ackStart = none ∧ s.journal.sentCount = 0 := by
  unfold SendTimes
  simp only [h, iff_false, imp_false, Bool.not_eq_true, Option.isSome_eq_false_iff, Option.isNone_iff_eq_none, not_lt,
    Nat.le_zero]
  constructor
  · rintro ⟨hsend, hack, hcount⟩
    refine ⟨hsend, ?_, hcount⟩
    rw [hcount] at hack
    simpa using hack
  · rintro ⟨hsend, hack, hcount⟩
    simp [hsend, hack, hcount]

theorem SendTimes.stopped {t : State} (ht : ¬ t.inSession) (hsend : t.seq.lastSend = none) (hack : t.seq.ackStart = none)
    (hcount : t.journal.sentCount = 0) : SendTimes t := (sendTimes_idle ht).2 ⟨hsend, hack, hcount⟩

theorem SendTimes.congr {s t : State} (h : SendTimes s) (hin : t.inSession ↔ s.inSession)
    (hsend : t.seq.lastSend = s.seq.lastSend) (hack : t.seq.ackStart = s.seq.ackStart)
    (hcount : t.journal.sentCount = s.journal.sentCount) : SendTimes t := by
  unfold SendTimes at h ⊢
  rwa [hin, hsend, hack, hcount]

/-- Outside sessions the link state and the role do not matter to the sequencer's times. -/
theorem SendTimes.idle {s t : State} (h : SendTimes s) (hs : ¬ s.inSession) (ht : ¬ t.inSession) (hseq : t.seq = s.seq)
    (hcount : t.journal.sentCount = s.journal.sentCount) : SendTimes t := by
  rw [sendTimes_idle ht, hseq, hcount]
  exact (sendTimes_idle hs).1 h

/-- A receiver's record that did not change is legal where the SINK's session did not end. -/
theorem SinkInv.of_rx {s t : State} (h : SinkInv s) (hrx : t.rx = s.rx) (hin : s.sinkSession → t.sinkSession) :
    SinkInv t := by
  unfold SinkInv at h ⊢
  rw [hrx]
  exact ⟨h.1, fun hout => h.2 (mt hin hout)⟩

theorem sinkInv_of_session {t : State} (hin : t.sinkSession)
    (hnak : t.rx.nakSlot.isSome = true → t.rx.nakOutstanding = true) : SinkInv t := ⟨hnak, fun h => absurd hin h⟩

theorem testInv_of_idle {t : State} (hrun : t.link.test.running = false) (hloop : t.link.test.inLoop = none) :
    TestInv t := by
  unfold TestInv
  rwa [if_neg (by simp [hrun])]

theorem TestInv.of_role {s t : State} (h : TestInv s) (htest : t.link.test = s.link.test)
    (hrole : s.link.test.running = true → t.role = s.role) : TestInv t := by
  unfold TestInv at h ⊢
  rw [htest]
  split at h
  · rename_i hrun
    rwa [if_pos hrun, hrole hrun]
  · rename_i hrun
    rwa [if_neg hrun]

/-- While the test runs the unit is ISOLATED (R113). -/
theorem TestInv.not_running {s : State} (h : TestInv s) (hr : s.role ≠ .isolated) : s.link.test.running = false := by
  unfold TestInv at h
  split at h
  · exact absurd h.1 hr
  · simpa using ‹¬ s.link.test.running = true›

/-- An abort empties the loop of a running test, and the loop of another is empty (R115). -/
theorem TestInv.aborted {s t : State} (h : TestInv s) (ht : t.link.test = s.link.test.abort) : TestInv t := by
  unfold TestInv at h
  by_cases hrun : s.link.test.running = true
  · refine testInv_of_idle ?_ ?_ <;> rw [ht, TestRecord.abort, if_pos hrun]
  · rw [if_neg hrun] at h
    refine testInv_of_idle ?_ ?_ <;> rw [ht, TestRecord.abort, if_neg hrun]
    · simpa using hrun
    · exact h

/-! ### What keeps them -/

/-- `t` keeps every record that `s` keeps to its states, the sequencer's as far as `J` holds, and the level of the cold
reset pin. -/
structure KeepsRecords (J : Prop) (s t : State) : Prop where
  link : LinkTimes s.role s.link → LinkTimes t.role t.link
  send : J → SendTimes s → SendTimes t
  sink : SinkInv s → SinkInv t
  test : TestInv s → TestInv t
  pin : t.coldPin = s.coldPin

variable {J : Prop}

theorem KeepsRecords.refl (s : State) : KeepsRecords J s s := ⟨id, fun _ => id, id, id, rfl⟩

theorem KeepsRecords.trans {s t u : State} (h : KeepsRecords J s t) (k : KeepsRecords J t u) : KeepsRecords J s u where
  link hs := k.link (h.link hs)
  send hj hs := k.send hj (h.send hj hs)
  sink hs := k.sink (h.sink hs)
  test hs := k.test (h.test hs)
  pin := k.pin.trans h.pin

theorem KeepsRecords.ite {c : Prop} [Decidable c] {s a b : State} (ha : c → KeepsRecords J s a)
    (hb : ¬ c → KeepsRecords J s b) : KeepsRecords J s (if c then a else b) := by
  split
  · exact ha ‹_›
  · exact hb ‹_›

/-- An effect that a condition decides about. -/
theorem KeepsRecords.cond {c : Prop} [Decidable c] {s t : State} (h : c → KeepsRecords J s t) :
    KeepsRecords J s (if c then t else s) :=
  .ite h fun _ => .refl s

theorem KeepsRecords.foldl {α : Type} {f : State → α → State} (hf : ∀ s a, KeepsRecords J s (f s a)) (l : List α)
    (s : State) : KeepsRecords J s (l.foldl f s) := by
  induction l generalizing s with
  | nil => exact .refl s
  | cons a l ih => exact (hf s a).trans (ih _)

/-- `t` has the role, the link, the receiver, the sequencer's times and the pin of `s`. -/
structure SameOwners (s t : State) : Prop where
  role : t.role = s.role
  link : t.link = s.link
  rx : t.rx = s.rx
  lastSend : t.seq.lastSend = s.seq.lastSend
  ackStart : t.seq.ackStart = s.seq.ackStart
  pin : t.coldPin = s.coldPin

theorem SameOwners.refl (s : State) : SameOwners s s := ⟨rfl, rfl, rfl, rfl, rfl, rfl⟩

theorem SameOwners.trans {s t u : State} (h : SameOwners s t) (k : SameOwners t u) : SameOwners s u :=
  ⟨k.role.trans h.role, k.link.trans h.link, k.rx.trans h.rx, k.lastSend.trans h.lastSend, k.ackStart.trans h.ackStart,
    k.pin.trans h.pin⟩

theorem SameOwners.inSession {s t : State} (h : SameOwners s t) : t.inSession ↔ s.inSession := by
  unfold State.inSession
  rw [h.role, h.link]

/-- With as many entries SENT as before, nothing changed that a record speaks of. -/
theorem SameOwners.keeps_of {s t : State} (h : SameOwners s t)
    (hcount : J → SendTimes s → t.journal.sentCount = s.journal.sentCount) : KeepsRecords J s t where
  link := by rw [h.role, h.link]; exact id
  send hj hs := hs.congr h.inSession h.lastSend h.ackStart (hcount hj hs)
  sink hs := hs.of_rx h.rx fun hin => ⟨h.role.trans hin.1, (congrArg Link.state h.link).trans hin.2⟩
  test hs := hs.of_role (congrArg Link.test h.link) fun _ => h.role
  pin := h.pin

theorem SameOwners.keeps {s t : State} (h : SameOwners s t) (hcount : t.journal.sentCount = s.journal.sentCount) :
    KeepsRecords J s t := h.keeps_of fun _ _ => hcount

/-- Outside a session no entry is SENT, so that the journal can be emptied (R38, R39). -/
theorem SameOwners.emptied {s t : State} (h : SameOwners s t) (hs : ¬ s.inSession) (he : t.journal.entries = []) :
    KeepsRecords J s t := by
  refine h.keeps_of fun _ hsend => ?_
  obtain ⟨-, -, hcount⟩ := (sendTimes_idle hs).1 hsend
  rw [hcount, Journal.sentCount, he]
  rfl

/-! ### Updates that no record is read from -/

theorem withHost_records (s : State) (x : HostPort) : KeepsRecords J s (s.withHost x) := ⟨id, fun _ => id, id, id, rfl⟩
theorem withWindows_records (s : State) (x : Vector Window 16) : KeepsRecords J s (s.withWindows x) :=
  ⟨id, fun _ => id, id, id, rfl⟩
theorem withPort_records (s : State) (x : MemoryPort) : KeepsRecords J s (s.withPort x) := ⟨id, fun _ => id, id, id, rfl⟩
theorem withDirty_records (s : State) (x : List Nat) : KeepsRecords J s (s.withDirty x) := ⟨id, fun _ => id, id, id, rfl⟩
theorem withSweep_records (s : State) (x : SweepEngine) : KeepsRecords J s (s.withSweep x) :=
  ⟨id, fun _ => id, id, id, rfl⟩
theorem withService_records (s : State) (x : Service) : KeepsRecords J s (s.withService x) :=
  ⟨id, fun _ => id, id, id, rfl⟩
theorem withFreeCount_records (s : State) (n : Nat) : KeepsRecords J s (s.withFreeCount n) :=
  ⟨id, fun _ => id, id, id, rfl⟩
theorem stallStart_records (s : State) (x : Option Time) :
    KeepsRecords J s (s.withJournal { s.journal with stallStart := x }) := ⟨id, fun _ => id, id, id, rfl⟩
theorem lane_records (s : State) (x : Option Frame) : KeepsRecords J s (s.withLink { s.link with lane := x }) :=
  ⟨id, fun _ => id, id, id, rfl⟩
theorem signal_records (s : State) (x : LaneSignal) : KeepsRecords J s (s.withLink { s.link with signal := x }) :=
  ⟨id, fun _ => id, id, id, rfl⟩
theorem raise_records (s : State) (c : EventCause) : KeepsRecords J s (s.raise c) := withService_records s _
theorem count_records (s : State) (f : Stats → Stats) : KeepsRecords J s (s.count f) := withService_records s _
theorem offerFault_records (s : State) (k : FaultKind) (w : Option WinIdx) (l : Option Line) (q : Option Seq)
    (e : Option Epoch) : KeepsRecords J s (s.offerFault k w l q e) := withService_records s _
theorem reply_records (s : State) (echo code : Byte) (st : ServiceStatus) (r : Reason) (l : List Byte) :
    KeepsRecords J s (s.reply echo code st r l) := withService_records s _
theorem replyDone_records (s : State) (echo code : Byte) (l : List Byte) : KeepsRecords J s (s.replyDone echo code l) :=
  withService_records s _
theorem refuse_records (s : State) (echo code : Byte) (r : Reason) : KeepsRecords J s (s.refuse echo code r) :=
  withService_records s _

theorem suspendWhere_owners (s : State) (p : Window → Bool) (cause : SuspendCause) :
    SameOwners s (s.suspendWhere p cause) := by
  rw [suspendWhere_eq]; exact { SameOwners.refl s with }

theorem suspendWhere_records (s : State) (p : Window → Bool) (cause : SuspendCause) :
    KeepsRecords J s (s.suspendWhere p cause) := by
  rw [suspendWhere_eq]; exact ⟨id, fun _ => id, id, id, rfl⟩

theorem suspendWindow_records (s : State) (w : WinIdx) (cause : SuspendCause) :
    KeepsRecords J s (s.suspendWindow w cause) := by
  rw [suspendWindow_eq]; exact ⟨id, fun _ => id, id, id, rfl⟩

theorem markDirty_records (s : State) (w : WinIdx) (g : Nat) : KeepsRecords J s (s.markDirty w g) := by
  rw [markDirty_eq]; exact withDirty_records s _

theorem markWindow_records (s : State) (w : WinIdx) : KeepsRecords J s (s.markWindow w) := by
  rw [markWindow_eq]; exact withDirty_records s _

theorem markAll_records (s : State) : KeepsRecords J s s.markAll := by
  rw [markAll_eq]; exact withDirty_records s _

theorem sweepTest_records (s : State) (w : WinIdx) : KeepsRecords J s (s.sweepTest w) := by
  rw [sweepTest_eq]; exact (withWindows_records s _).trans (withService_records _ _)

theorem answerTags_owners (s : State) (tags : List Tag) (st : HostStatus) : SameOwners s (s.answerTags tags st) := by
  rw [answerTags_eq]; exact { SameOwners.refl s with }

theorem discard_owners (s : State) : SameOwners s s.discard := by
  rw [discard_eq, answerTags_eq]; exact { SameOwners.refl s with }

theorem convert_owners (s : State) : SameOwners s s.convert := by
  rw [convert_eq, discard_eq, answerTags_eq]; exact { SameOwners.refl s with }

/-! ### Entries -/

/-- Entries changed one by one, but for their sending state. -/
theorem mapEntries_records (s : State) {f : JournalEntry → JournalEntry} (hf : ∀ e, (f e).sent = e.sent) :
    KeepsRecords J s (s.withEntries (s.journal.entries.map f)) := by
  refine SameOwners.keeps { SameOwners.refl s with } ?_
  have hsent : (fun x : JournalEntry => x.sent) ∘ f = fun x => x.sent := funext hf
  rw [sentCount_eq_countP, sentCount_eq_countP]
  exact (List.countP_map ..).trans (by rw [hsent])

/-- A WAITING entry joins the journal. -/
theorem append_records (s : State) {e : JournalEntry} (he : e.sent = false) :
    KeepsRecords J s (s.withJournal (s.journal.append e)) := by
  refine SameOwners.keeps { SameOwners.refl s with } ?_
  rw [sentCount_eq_countP, sentCount_eq_countP]
  simp [Journal.append, List.countP_append, he]

theorem capture_records (s : State) (w : WinIdx) (line : Line) (mask : Mask) (data : LineData) (poisoned : Bool) :
    KeepsRecords J s (s.capture w line mask data poisoned) := by
  cases hm : s.merges w line poisoned with
  | true =>
    obtain ⟨-, -, e, hlast, -⟩ := (merges_iff s w line poisoned).1 hm
    obtain ⟨front, hfront⟩ := List.getLast?_eq_some_iff.1 hlast
    rw [capture_merged hfront hm]
    refine SameOwners.keeps { SameOwners.refl s with } ?_
    rw [sentCount_eq_countP, sentCount_eq_countP, hfront]
    simp [State.withEntries, List.countP_append, List.countP_cons, JournalEntry.merge]
  | false =>
    unfold State.capture
    rw [if_neg (by simp [hm])]
    exact append_records s rfl

/-! ### What comes about at once -/

theorem nextEpoch_ne_zero (e : Epoch) : nextEpoch e ≠ 0 := by
  unfold nextEpoch
  split
  · decide
  · rename_i h
    intro hzero
    exact h (by bv_omega)

/-- HAIL is entered from DOWN, in a role that has HAIL, and on a SOURCE with an advanced epoch (R102, R103). -/
theorem enterHail_records (s : State) : KeepsRecords J s s.enterHail := by
  unfold State.enterHail
  refine .cond fun ⟨hdown, _, _, _⟩ => ?_
  have hs : ¬ s.inSession := inSession_not_down hdown
  refine ⟨fun ⟨hreceipt, _, _⟩ => ⟨?_, fun _ => rfl, fun hr _ => ?_⟩, fun _ h => h.idle hs nofun rfl rfl,
    fun h => h.of_rx rfl fun hin => absurd hdown (by rw [hin.2]; decide), id, rfl⟩
  · simpa [hdown] using hreceipt
  · simpa [show s.role = .source from hr] using nextEpoch_ne_zero _

theorem sendFirst_sent {l : List JournalEntry} {e : JournalEntry} (h : l.find? (fun x => !x.sent) = some e) :
    0 < (sendFirst l).countP (·.sent) := by
  induction l with
  | nil => exact nomatch h
  | cons a l ih =>
    unfold sendFirst
    split <;> simp [*]

/-- The choice of R118 in session: whatever goes out, the last send stands, and a SENT entry's ack start (R120). -/
theorem sourceFrame_records {s : State} (hin : s.inSession) (probe : Bool) : KeepsRecords J s (s.sourceFrame probe) := by
  have hsink : ¬ s.sinkSession := fun h => nomatch hin.1.symm.trans h.1
  unfold State.sourceFrame
  split
  · rename_i e he
    obtain ⟨hfirst, -⟩ := sendable_some he
    refine ⟨id, fun _ ⟨_, hack, _⟩ => ⟨iff_of_true rfl hin, ?_, fun _ => hin⟩, id, id, rfl⟩
    have hcount : 0 < (s.sendEntry e).journal.sentCount := by
      rw [sentCount_eq_countP]; exact sendFirst_sent hfirst
    have hstart : (s.sendEntry e).seq.ackStart =
        if s.journal.sentCount = 0 then some s.time else s.seq.ackStart := rfl
    refine iff_of_true ?_ hcount
    rw [hstart]
    split
    · rfl
    · exact hack.2 (Nat.pos_of_ne_zero ‹_›)
  · exact .cond fun _ => ⟨id, fun _ ⟨_, hack, _⟩ => ⟨iff_of_true rfl hin, hack, fun _ => hin⟩, id, id, rfl⟩

/-- The sink transmitter takes what it sends out of its record (R147). -/
theorem sinkFrame_records {s : State} (hin : s.sinkSession) : KeepsRecords J s s.sinkFrame := by
  have hsend (f : Frame) (x : Receiver) (hnak : SinkInv s → x.nakSlot.isSome = true → x.nakOutstanding = true) :
      KeepsRecords J s ((s.beginFrame f).withRx x) :=
    ⟨id, fun _ => id, fun h => sinkInv_of_session hin (hnak h), id, rfl⟩
  unfold State.sinkFrame
  split
  · exact hsend _ _ fun h => h.1
  · exact hsend _ _ fun _ => nofun
  · exact .ite (fun _ => hsend _ _ fun h => h.1) fun _ => .cond fun _ => hsend _ _ fun h => h.1

theorem sendHello_records {s : State} (hh : s.link.state = .hail) (x : Hello) : KeepsRecords J s (s.sendHello x) :=
  ⟨fun ⟨hreceipt, _, hepoch⟩ => ⟨hreceipt, fun _ => hh, hepoch⟩, fun _ => id, id, id, rfl⟩

theorem chooseFrame_records (s : State) (probe : Bool) : KeepsRecords J s (s.chooseFrame probe) := by
  cases hl : s.link.lane with
  | some f => rw [chooseFrame_busy probe hl]; exact .refl s
  | none =>
    rcases sender_cases s with hin | hin | ⟨hr, hh⟩ | ⟨hr, hh⟩ | hq
    · rw [chooseFrame_source probe hl hin]; exact sourceFrame_records hin probe
    · rw [chooseFrame_sink probe hl hin]; exact sinkFrame_records hin
    · rw [chooseFrame_hailSource probe hl hr hh]; exact .cond fun _ => sendHello_records hh _
    · rw [chooseFrame_hailSink probe hl hr hh]; exact .cond fun _ => sendHello_records hh _
    · rw [chooseFrame_quiet probe hq]; exact .refl s

theorem settleWith_records (s : State) (probe : Bool) : KeepsRecords J s (s.settleWith probe) := by
  have hheads (l : List QueuedRequest) (u : State) : KeepsRecords J u (State.answerHeads l u) := by
    rw [answerHeads_eq]; exact withHost_records u _
  have hrest (u : State) : KeepsRecords J u u.timeStall.choosePosition.clearPassedOver := by
    rw [clearPassedOver_eq, choosePosition_eq, timeStall_eq]
    exact ⟨id, fun _ => id, id, id, rfl⟩
  exact (enterHail_records s).trans ((hheads _ _).trans ((chooseFrame_records _ probe).trans (hrest _)))

theorem settle_records (s : State) : KeepsRecords J s s.settle := settleWith_records s false

/-- An effect that keeps the records, settled and answered DONE. -/
theorem settleDone_records {s t : State} (echo code : Byte) (l : List Byte) (h : KeepsRecords J s t) :
    KeepsRecords J s (t.settle.replyDone echo code l) :=
  h.trans ((settle_records t).trans (replyDone_records _ _ _ _))

/-! ### Link states -/

/-- The link is DOWN with nothing timed, whatever it was before. -/
theorem leaveLink_times (s : State) (r : Role) : LinkTimes r s.leaveLink.link :=
  ⟨⟨nofun, nofun⟩, fun h => h.elim nofun nofun, fun _ h => absurd rfl h⟩

/-- The link leaves a state other than UP for DOWN (R95, R111). -/
theorem leaveLink_records {s : State} (h : s.link.state ≠ .up) : KeepsRecords J s s.leaveLink :=
  ⟨fun _ => leaveLink_times s _, fun _ hs => hs.idle (fun hin => h hin.2) nofun rfl rfl,
    fun hs => hs.of_rx rfl fun hin => absurd hin.2 h, id, rfl⟩

/-- Link loss on a SOURCE stops the sequencer's times and empties the journal, with the link DOWN (R38, R110, R131). -/
theorem linkLoss_source_owners {s : State} (cause : SuspendCause) (hin : s.inSession) :
    ∃ u, SameOwners (s.leaveLink.raise .linkDown) u ∧ u.journal.entries = [] ∧
      s.linkLoss cause = u.withSeq { s.seq with ackStart := none, lastSend := none } :=
  ⟨_, (suspendWhere_owners _ Window.capturing cause).trans (convert_owners _), convert_entries _,
    linkLoss_source cause hin.2 hin.1⟩

/-- After it the times are legal whatever they were. -/
theorem linkLoss_source_times {s : State} (cause : SuspendCause) (hin : s.inSession) :
    LinkTimes (s.linkLoss cause).role (s.linkLoss cause).link ∧ SendTimes (s.linkLoss cause) := by
  obtain ⟨u, hu, hempty, hloss⟩ := linkLoss_source_owners cause hin
  rw [hloss]
  have hdown : u.link.state = .down := congrArg Link.state hu.link
  refine ⟨?_, .stopped (fun h => nomatch hdown.symm.trans h.2) rfl rfl ?_⟩
  · rw [State.withSeq_link, hu.link]; exact leaveLink_times s _
  · rw [State.withSeq_journal, Journal.sentCount, hempty]; rfl

/-- Link loss in every role (R110, R149). -/
theorem linkLoss_records (s : State) (cause : SuspendCause) : KeepsRecords J s (s.linkLoss cause) := by
  by_cases hup : s.link.state = .up
  · have hleave (hr : s.role ≠ .source) (x : Receiver) (hx : SinkInv s → SinkInv (s.leaveLink.withRx x)) :
        KeepsRecords J s ((s.leaveLink.raise .linkDown).withRx x) :=
      ⟨fun _ => leaveLink_times s _, fun _ hs => hs.idle (fun hin => hr hin.1) (fun hin => hr hin.1) rfl rfl, hx, id, rfl⟩
    cases hr : s.role with
    | source =>
      obtain ⟨hlink, hsend⟩ := linkLoss_source_times cause ⟨hr, hup⟩
      obtain ⟨u, hu, -, hloss⟩ := linkLoss_source_owners cause ⟨hr, hup⟩
      refine ⟨fun _ => hlink, fun _ _ => hsend, fun hs => ?_, fun hs => ?_, ?_⟩ <;> rw [hloss]
      · exact hs.of_rx hu.rx fun hin => nomatch hr.symm.trans hin.1
      · exact hs.of_role (congrArg Link.test hu.link :) fun _ => hu.role
      · exact hu.pin
    | sink =>
      rw [linkLoss_sink cause hup hr]
      exact hleave (by simp [hr]) _ fun _ => ⟨nofun, fun _ => ⟨rfl, rfl, rfl, rfl⟩⟩
    | isolated | draining =>
      rw [linkLoss_other cause hup (by simp [hr])]
      exact hleave (by simp [hr]) s.rx fun hs => hs.of_rx rfl fun hin => nomatch hr.symm.trans hin.1
  · rw [linkLoss_notUp cause hup]; exact .refl s

/-- The link enters UP from HAIL; a SOURCE's last send stands from then on (R107, R116). -/
theorem linkUp_records {s : State} (hh : s.link.state = .hail) : KeepsRecords J s s.linkUp := by
  have hs : ¬ s.inSession := fun hin => nomatch hh.symm.trans hin.2
  have hsink : ¬ s.sinkSession := fun hin => nomatch hh.symm.trans hin.2
  have hlink (h : LinkTimes s.role s.link) : LinkTimes s.role
      { s.link with state := .up, lastReceipt := some s.time, lastHello := none, helloDue := false } :=
    ⟨iff_of_true rfl rfl, fun h => h.elim nofun nofun, fun hr _ => h.2.2 hr (by rw [hh]; decide)⟩
  unfold State.linkUp
  refine .ite (fun hr => ?_) fun hr => ?_
  · refine ⟨hlink, fun _ h => ⟨iff_of_true rfl ⟨hr, rfl⟩, iff_of_false nofun ?_, fun _ => ⟨hr, rfl⟩⟩,
      fun h => h.of_rx rfl fun hin => absurd hin hsink, id, rfl⟩
    obtain ⟨-, -, hcount⟩ := (sendTimes_idle hs).1 h
    exact Nat.not_lt.2 (Nat.le_of_eq hcount)
  · exact ⟨hlink, fun _ h => h.idle hs (fun hin => hr hin.1) rfl rfl,
      fun h => h.of_rx rfl fun hin => absurd hin hsink, id, rfl⟩

theorem enterClash_records {s : State} (e : Epoch) (hh : s.link.state = .hail) (hr : s.role = .source) :
    KeepsRecords J s (s.enterClash e) := by
  refine KeepsRecords.trans (t := s.withLink
    { s.link with state := .clash, lastReceipt := none, lastHello := none, helloDue := false }) ?_
    ((raise_records _ .clash).trans (offerFault_records _ _ _ _ _ _))
  exact ⟨fun h => ⟨⟨nofun, nofun⟩, fun h => h.elim nofun nofun, fun hr _ => h.2.2 hr (by rw [hh]; decide)⟩,
    fun _ h => h.idle (fun hin => nomatch hh.symm.trans hin.2) nofun rfl rfl,
    fun h => h.of_rx rfl fun hin => (nomatch hr.symm.trans hin.1), id, rfl⟩

/-- A SINK in HAIL adopts a session: the receiver's flags are cleared, the link enters UP and the reply is owed (R105). -/
theorem adopt_records {s : State} (e : Epoch) (b : Seq) (hh : s.link.state = .hail) (hr : s.role = .sink) :
    KeepsRecords J s (s.adopt e b) := by
  have hbefore : KeepsRecords J s ((s.withLink { s.link with epoch := e }).withRx
      { s.rx with
        expected := b, lastApplied := b - 1, applyFaults := 0, nakOutstanding := false, nakSlot := none
        ackPending := false }) := by
    refine ⟨fun ⟨hreceipt, hhello, _⟩ => ⟨hreceipt, hhello, fun h => nomatch hr.symm.trans h⟩, fun _ => id, fun h => ?_, id,
      rfl⟩
    obtain ⟨-, -, hreply, hreports⟩ := h.2 fun hin => nomatch hh.symm.trans hin.2
    exact ⟨nofun, fun _ => ⟨rfl, rfl, hreply, hreports⟩⟩
  have hafter (u : State) (hh : u.link.state = .hail) (hr : u.role = .sink) :
      KeepsRecords J u (u.linkUp.withRx { u.linkUp.rx with replyOwed := true }) := by
    have hin : u.linkUp.sinkSession := by
      unfold State.linkUp
      rw [if_neg (by simp [hr])]
      exact ⟨hr, rfl⟩
    exact (linkUp_records hh).trans ⟨id, fun _ => id, fun h => sinkInv_of_session hin h.1, id, rfl⟩
  exact hbefore.trans (hafter _ hh hr)

theorem hailHello_records {s : State} (hh : s.link.state = .hail) (h : Hello) : KeepsRecords J s (s.hailHello h) := by
  unfold State.hailHello
  split
  · exact .cond fun _ => linkUp_records hh
  · exact enterClash_records _ hh ‹_›
  · exact .cond fun _ => adopt_records _ _ hh ‹_›
  all_goals exact .refl s

/-! ### Role changes and the warm reset -/

theorem roleLink_test (s : State) (new : Role) : (s.roleLink new).link.test = s.link.test := by
  have hconv (u : State) (hu : u.link.test = s.link.test) :
      (if s.role = .source ∧ new = .isolated then u.convert else u).link.test = s.link.test := by
    split
    · exact (congrArg Link.test (convert_owners u).link).trans hu
    · exact hu
  unfold State.roleLink
  refine hconv _ ?_
  cases s.link.state with
  | up => exact (linkLoss_aside s .role).2.2.2.1
  | hail | clash | down => rfl

/-- The link part of a role change (R155). -/
theorem roleLink_records (s : State) (new : Role) : KeepsRecords J s (s.roleLink new) := by
  have hconv (u : State) (h : KeepsRecords J s u) (hdown : u.link.state = .down) :
      KeepsRecords J s (if s.role = .source ∧ new = .isolated then u.convert else u) :=
    h.trans (.cond fun _ => (convert_owners u).emptied (inSession_not_down hdown) (convert_entries u))
  unfold State.roleLink
  cases hl : s.link.state with
  | up => exact hconv _ (linkLoss_records s .role) (linkLoss_down s .role hl)
  | hail | clash => exact hconv _ (leaveLink_records (by rw [hl]; decide)) rfl
  | down => exact hconv s (.refl s) hl

/-- The role can change in DOWN: on an ISOLATED unit while no test runs (R113, R154). -/
theorem withRole_records {s : State} (new : Role) (hdown : s.link.state = .down)
    (hrun : s.role = .isolated → s.link.test.running = false) : KeepsRecords J s (s.withRole new) where
  link h := ⟨h.1, h.2.1, fun _ hne => absurd hdown hne⟩
  send _ h := h.idle (inSession_not_down hdown) (inSession_not_down (s := s.withRole new) hdown) rfl rfl
  sink h := h.of_rx rfl fun hin => nomatch hdown.symm.trans hin.2
  test h := by
    refine h.of_role rfl fun hr => ?_
    by_cases hi : s.role = .isolated
    · exact nomatch (hrun hi).symm.trans hr
    · exact nomatch (h.not_running hi).symm.trans hr
  pin := rfl

/-- What follows the link part of a role change (R155). -/
theorem changeRole_of_roleLink {s u : State} {new : Role} (h : KeepsRecords J s (u.roleLink new))
    (hrun : u.role = .isolated → u.link.test.running = false) : KeepsRecords J s (u.changeRole new) := by
  obtain ⟨hdown, hrole⟩ := roleLink_down u new
  have hwindows (v : State) (old : Role) : KeepsRecords J v (v.roleWindows old new) :=
    .ite (fun _ => suspendWhere_records v _ _) fun _ => .cond fun _ => suspendWhere_records v _ _
  have hdirty (v : State) (old : Role) : KeepsRecords J v (v.roleDirty old new) :=
    .ite (fun _ => withDirty_records v _) fun _ => .cond fun _ => markAll_records v
  have hchange : KeepsRecords J (u.roleLink new) ((u.roleLink new).withRole new) :=
    withRole_records new hdown (by rwa [hrole, roleLink_test])
  exact h.trans (hchange.trans ((hwindows _ u.role).trans ((hdirty _ u.role).trans
    ((withService_records _ _).trans (settle_records _)))))

theorem changeRole_records {s : State} (new : Role) (hrun : s.role = .isolated → s.link.test.running = false) :
    KeepsRecords J s (s.changeRole new) := changeRole_of_roleLink (roleLink_records s new) hrun

theorem drainCheck_records (s : State) : KeepsRecords J s s.drainCheck :=
  .cond fun ⟨hr, _⟩ => (changeRole_records .source fun hi => nomatch hr.symm.trans hi).trans (raise_records _ _)

/-- A forced change to SINK: in session the link part stops the times of the journal that was discarded before (R159). -/
theorem forcedSink_records {s : State} (hr : s.role = .source) : KeepsRecords J s (s.discard.changeRole .sink) := by
  have hd := discard_owners s
  have hsource : s.discard.role = .source := hd.role.trans hr
  refine changeRole_of_roleLink ?_ fun hi => nomatch hsource.symm.trans hi
  by_cases hin : s.inSession
  · have hin' := hd.inSession.2 hin
    have hlink : s.discard.roleLink .sink = s.discard.linkLoss .role := by
      unfold State.roleLink
      rw [hin'.2]
      exact if_neg nofun
    have hrest : KeepsRecords False s (s.discard.linkLoss .role) :=
      (hd.keeps_of nofun).trans (linkLoss_records _ .role)
    obtain ⟨htimes, hsend⟩ := linkLoss_source_times .role hin'
    rw [hlink]
    exact { hrest with link := fun _ => htimes, send := fun _ _ => hsend }
  · exact (hd.emptied hin (discard_entries s)).trans (roleLink_records _ .sink)

/-- A warm reset stops every time, clears the receiver's flags and aborts a running test (R112, R115, R116, R151). -/
theorem warmReset_records (s : State) : KeepsRecords J s s.warmReset := by
  have hblocks : KeepsRecords J s s.warmBlocks := by
    rw [warmBlocks_eq]
    refine ⟨fun _ => leaveLink_times s _, fun _ _ => .stopped (fun h => nomatch h.1) rfl rfl rfl,
      fun _ => ⟨nofun, fun _ => ⟨rfl, rfl, rfl, rfl⟩⟩, fun h => ?_, rfl⟩
    exact h.aborted rfl
  exact hblocks.trans ((settle_records _).trans (withService_records _ _))

/-! ### The apply engine -/

theorem sessionEffect_session {s : State} {e : ApplyEntry} (h : s.sessionEffect e = true) : s.sinkSession := by
  simp only [State.sessionEffect, Bool.and_eq_true, beq_iff_eq] at h
  exact h.1

/-- The receiver's record of a SINK in UP, its NAK slot left with its flag. -/
theorem withRx_records {s : State} {x : Receiver} (hin : s.sinkSession)
    (hx : (s.rx.nakSlot.isSome = true → s.rx.nakOutstanding = true) → x.nakSlot.isSome = true → x.nakOutstanding = true) :
    KeepsRecords J s (s.withRx x) :=
  ⟨id, fun _ => id, fun h => sinkInv_of_session hin (hx h.1), id, rfl⟩

/-- An entry is finished: only with session effect are flags set and REPORTs queued (R139, R142, R143). -/
theorem finishEntry_records (s : State) (e : ApplyEntry) (how : Finish) : KeepsRecords J s (s.finishEntry e how) := by
  have hleft : KeepsRecords J s (s.withRx { s.rx with applyQueue := s.rx.applyQueue.tail }) :=
    ⟨id, fun _ => id, id, id, rfl⟩
  have hmoved (u : State) : KeepsRecords J u (u.moveApplied e) :=
    .cond fun h => withRx_records (sessionEffect_session h) id
  cases how with
  | written =>
    have hmark (u : State) : KeepsRecords J u ((u.withRx { u.rx with appliedMark := e.markRecord }).raise .markApplied) :=
      ⟨id, fun _ => id, id, id, rfl⟩
    have hcount (u : State) : KeepsRecords J u (u.countApplied e) :=
      (count_records u _).trans (.cond fun _ => hmark _)
    exact hleft.trans ((hcount _).trans (hmoved _))
  | unwritten => exact hleft.trans (hmoved _)
  | fault kind window =>
    have hfault (u : State) : KeepsRecords J u (u.applyFault e kind window) :=
      .ite (fun h => ((offerFault_records u _ _ _ _ _).trans (raise_records _ .applyFault)).trans
        (withRx_records (sessionEffect_session h) id))
        fun _ => (offerFault_records u _ _ _ _ _).trans (raise_records _ _)
    exact hleft.trans ((hfault _).trans (hmoved _))

theorem examine_records (s : State) : KeepsRecords J s s.examine := by
  have hfrom (l : List ApplyEntry) (u : State) : KeepsRecords J u (State.examineFrom l u) := by
    induction l generalizing u with
    | nil => exact .refl u
    | cons e l ih =>
      refine .ite (fun _ => .refl u) fun _ => .ite (fun _ => (finishEntry_records u e _).trans (ih _)) fun _ => ?_
      split
      · exact .refl u
      · exact (finishEntry_records u e _).trans (ih _)
  exact hfrom _ s

theorem examineNow_records (s : State) : KeepsRecords J s s.examineNow :=
  .cond fun _ => (examine_records s).trans ((drainCheck_records _).trans (settle_records _))

/-! ### Grants -/

theorem grantHost_records (s : State) (r : QueuedRequest) (rest : List QueuedRequest) :
    KeepsRecords J s (s.grantHost r rest) := by
  have htaken : KeepsRecords J s (s.headTaken rest) := (withHost_records s _).trans (stallStart_records _ _)
  have hput (u : State) (access : Access) (grant : HostGrant) :
      KeepsRecords J u (u.putOnPort r.line access (.host (some r.tag) grant)) := withPort_records u _
  refine htaken.trans ?_
  unfold State.grantHost
  simp only
  split
  · exact hput _ _ _
  · split
    · exact hput _ _ _
    · exact hput _ _ _
    · exact (markDirty_records _ _ _).trans (hput _ _ _)
    · exact (capture_records _ _ _ _ _ _).trans (hput _ _ _)

theorem grantApply_records (s : State) (e : ApplyEntry) : KeepsRecords J s (s.grantApply e) := by
  have hclassify : KeepsRecords J s (s.classifyApply e.target) := by
    refine .cond fun _ => ?_
    split
    · exact .refl s
    · exact .ite (fun _ => (suspendWindow_records s _ _).trans (markDirty_records _ _ _)) fun _ =>
        markDirty_records s _ _
  exact hclassify.trans (withPort_records _ _)

theorem grantTo_records (s : State) (g : Grantee) : KeepsRecords J s (s.grantTo g) := by
  cases g with
  | host =>
    cases hq : s.host.queue with
    | nil => unfold State.grantTo; simp only [hq]; exact .refl s
    | cons r rest => rw [grantTo_host hq]; exact grantHost_records s r rest
  | sweep =>
    cases hp : s.sweep.position with
    | none => unfold State.grantTo; simp only [hp]; exact .refl s
    | some p => rw [grantTo_sweep hp]; exact (withSweep_records s _).trans (withPort_records _ _)
  | apply =>
    cases hq : s.rx.applyQueue with
    | nil => unfold State.grantTo; simp only [hq]; exact .refl s
    | cons e rest => rw [grantTo_apply hq]; exact grantApply_records s e

theorem grantNow_records (s : State) : KeepsRecords J s s.grantNow := by
  refine .ite (fun _ => .refl s) fun _ => ?_
  split
  · exact .refl s
  · exact (grantTo_records s _).trans ((withPort_records _ _).trans (settle_records _))

theorem prompt_records (s : State) : KeepsRecords J s s.prompt := by
  have hall (n : Nat) (u : State) : KeepsRecords J u (State.examineAll n u) := by
    induction n generalizing u with
    | zero => exact .refl u
    | succ n ih => exact .cond fun _ => (examineNow_records u).trans (ih _)
  exact .ite (fun _ => .refl s) fun _ => (hall _ s).trans (grantNow_records _)

end Sys2Proof.Machine
end

section
/-! The records through what each command does of its own: completions, timers, frames, the ports and the loopback test. -/

namespace Sys2Proof.Machine

variable {J : Prop}

/-! ### Completions -/

theorem idlePort_records (s : State) : KeepsRecords J s s.idlePort := withPort_records s _

theorem answerPort_records (s : State) (tag : Option Tag) (st : HostStatus) (d : Option ReadData) :
    KeepsRecords J s (s.answerPort tag st d) := by
  unfold State.answerPort
  split
  · exact .refl s
  · exact withHost_records s _

theorem closeEntry_records (s : State) (q : Seq) (ok : Bool) (tag : Option Tag) :
    KeepsRecords J s (s.closeEntry q ok tag) :=
  mapEntries_records s fun e => by split <;> rfl

theorem completeCapture_records (s : State) (tag : Option Tag) (cls : CommitClass) (q : Seq) (poisoned : Bool)
    (c : Completion) : KeepsRecords J s (s.completeCapture tag cls q poisoned c) := by
  refine .ite (fun _ => ?_) fun _ => (closeEntry_records s _ _ _).trans (answerPort_records _ _ _ _)
  split
  · exact closeEntry_records s _ _ _
  · exact .ite (fun _ => (closeEntry_records s _ _ _).trans (withHost_records _ _)) fun _ => withHost_records s _

theorem completeHost_records (s : State) (o : Operation) (tag : Option Tag) (grant : HostGrant) (c : Completion) :
    KeepsRecords J s (s.completeHost o tag grant c) := by
  unfold State.completeHost
  cases o.access with
  | read => cases c <;> exact answerPort_records s _ _ _
  | write mask data poisoned =>
    cases grant with
    | capture cls q => exact completeCapture_records s tag cls q poisoned c
    | read | pass | track => exact answerPort_records s _ _ _

theorem advanceSweep_records (s : State) (w : WinIdx) : KeepsRecords J s (s.advanceSweep w) := by
  unfold State.advanceSweep
  split
  · exact .refl s
  · exact .ite (fun _ => (withDirty_records s _).trans ((withSweep_records _ _).trans (sweepTest_records _ w))) fun _ =>
      withSweep_records s _

theorem completeSweep_records (s : State) (w : WinIdx) (line : Line) (current : Bool) (c : Completion) :
    KeepsRecords J s (s.completeSweep w line current c) := by
  have hfault : KeepsRecords J s (if completionOk c then s else s.offerFault .memoryError (some w) (some line) none none) :=
    .ite (fun _ => .refl s) fun _ => offerFault_records s _ _ _ _ _
  have htaken (u : State) : KeepsRecords J u (u.withJournal (u.journal.append (s.sweepEntry w line c))) :=
    append_records u rfl
  exact .ite (fun _ => hfault.trans ((htaken _).trans (.cond fun _ => advanceSweep_records _ w))) fun _ => hfault

theorem completeFor_records (s : State) (o : Operation) (c : Completion) : KeepsRecords J s (s.completeFor o c) := by
  unfold State.completeFor
  split
  · exact completeHost_records s o _ _ c
  · exact (withSweep_records s _).trans (.ite (fun _ => .refl _) fun _ => completeSweep_records _ _ _ _ c)
  · exact .ite (fun _ => .refl s) fun _ =>
      (finishEntry_records s _ _).trans ((examine_records _).trans (drainCheck_records _))

/-! ### Timers -/

theorem expireStall_records (s : State) : KeepsRecords J s s.expireStall := by
  have hsuspend (w : WinIdx) (line : Line) : KeepsRecords J s (s.overflowSuspend w line) :=
    (suspendWhere_records s Window.capturing .overflow).trans
      ((offerFault_records _ _ _ _ _ _).trans ((raise_records _ _).trans (count_records _ _)))
  refine .cond fun _ => ?_
  split
  · exact .refl s
  · split
    · exact (hsuspend _ _).trans (settle_records _)
    all_goals exact .refl s

theorem expireHold_records (s : State) (tag : Tag) : KeepsRecords J s (s.expireHold tag) := by
  have hrelease (q : Seq) : KeepsRecords J s ((s.answerHeld tag .unmirrored).releaseTag q tag) :=
    KeepsRecords.trans (t := s.answerHeld tag .unmirrored) (withHost_records s _)
      (mapEntries_records _ fun e => by split <;> rfl)
  refine .cond fun _ => ?_
  split
  · exact .refl s
  · exact (hrelease _).trans ((raise_records _ _).trans ((count_records _ _).trans (settle_records _)))

/-- After a rewind to the head no entry is SENT (R24). -/
theorem rewindFrom_zero_sent (l : List JournalEntry) : (rewindFrom 0 l).countP (·.sent) = 0 := by
  simp [rewindFrom, List.countP_map, List.countP_eq_zero]

/-- The head stays SENT at a rewind to a later entry, where the SENT entries are the oldest (R24). -/
theorem rewindFrom_head_sent {l : List JournalEntry} {k : Nat} (hsorted : l.Pairwise fun a b => b.sent = true → a.sent = true)
    (hk : k ≠ 0) (hpos : 0 < l.countP (·.sent)) : 0 < (rewindFrom k l).countP (·.sent) := by
  obtain ⟨k, rfl⟩ := Nat.exists_eq_succ_of_ne_zero hk
  cases l with
  | nil => exact hpos
  | cons e l =>
    have he : e.sent = true := by
      obtain ⟨x, hx, hsent⟩ := List.countP_pos_iff.1 hpos
      rcases List.mem_cons.1 hx with rfl | hx
      · exact hsent
      · exact (List.pairwise_cons.1 hsorted).1 x hx hsent
    simp [rewindFrom, List.countP_append, he]

/-- A rewind in session starts the acknowledgment timer again where an entry stays SENT, and stops it where none does;
exhausted rounds are link loss (R120, R122). -/
theorem askRewind_records {s : State} (hin : s.inSession) {k : Nat}
    (hk : J → k ≠ 0 → 0 < (rewindFrom k s.journal.entries).countP (·.sent)) : KeepsRecords J s (s.askRewind k) := by
  refine .ite (fun _ => ?_) fun _ => (offerFault_records s _ _ _ _ _).trans (linkLoss_records _ _)
  refine KeepsRecords.trans (t := (s.withEntries (rewindFrom k s.journal.entries)).withSeq
    { s.seq with rounds := s.seq.rounds + 1, ackStart := if k = 0 then none else some s.time }) ?_ (count_records _ _)
  refine ⟨id, fun hj ⟨hsend, _, _⟩ => ⟨hsend, ?_, fun _ => hin⟩, fun h => h.of_rx rfl id, id, rfl⟩
  have hcount : (s.withEntries (rewindFrom k s.journal.entries)).journal.sentCount =
      (rewindFrom k s.journal.entries).countP (·.sent) := sentCount_eq_countP _
  simp only [State.withSeq_seq, State.withSeq_journal, hcount]
  split
  · rename_i hzero
    subst hzero
    simp [rewindFrom_zero_sent]
  · exact iff_of_true rfl (hk hj ‹_›)

theorem expireTimer_records (s : State) (n : TimerName) : KeepsRecords J s (s.expireTimer n) := by
  cases n with
  | ack =>
    refine .cond fun h => ?_
    obtain ⟨hin, -⟩ := (ackDue_iff s).1 h
    exact (askRewind_records hin fun _ hk => absurd rfl hk).trans (settle_records _)
  | probe => exact .cond fun _ => (chooseFrame_records s true).trans (settle_records _)
  | quiet => exact .cond fun _ => (linkLoss_records s .link).trans (settle_records _)
  | stall => exact expireStall_records s
  | held => exact .foldl expireHold_records _ s

theorem repeatHello_records (s : State) : KeepsRecords J s s.repeatHello := by
  refine .cond fun h => KeepsRecords.trans ?_ (settle_records _)
  obtain ⟨hhail, -⟩ := (helloRepeatDue_iff s).1 h
  exact ⟨fun ⟨hreceipt, _, hepoch⟩ => ⟨hreceipt, fun _ => hhail, hepoch⟩, fun _ => id, id, id, rfl⟩

theorem expireDueTimers_records (s : State) : KeepsRecords J s s.expireDueTimers :=
  .ite (fun _ => .foldl expireTimer_records _ s) fun _ =>
    (KeepsRecords.foldl expireTimer_records _ s).trans (withFreeCount_records _ _)

theorem setTimers_records (s : State) (echo : Byte) (t : Timers) : KeepsRecords J s (s.setTimers echo t) :=
  .ite (fun _ => reply_records s _ _ _ _ _) fun _ => .ite (fun _ => reply_records s _ _ _ _ _) fun _ =>
    .ite (fun _ => replyDone_records s _ _ _) fun _ =>
      (withService_records s _).trans ((expireDueTimers_records _).trans (replyDone_records _ _ _ _))

/-! ### Frames received -/

/-- A frame noted in UP has its time there (R109). -/
theorem noteReceipt_records (s : State) : KeepsRecords J s s.noteReceipt :=
  .cond fun hup => ⟨fun ⟨_, hhello, hepoch⟩ => ⟨iff_of_true rfl hup, hhello, hepoch⟩, fun _ => id, id, id, rfl⟩

/-- A frame is noted and, where it counts, acted on and settled (R100). -/
theorem receive_records (s : State) {c : Prop} [Decidable c] {t : State} (ht : c → KeepsRecords J s.noteReceipt t) :
    KeepsRecords J s (if s.receives then if c then t.settle else s.noteReceipt else s) :=
  .cond fun _ => (noteReceipt_records s).trans (.cond fun hc => (ht hc).trans (settle_records _))

theorem toChecker_iff (s : State) : s.toChecker = true ↔ s.sinkSession := by simp [State.toChecker, State.sinkSession]

/-- A NAK is placed with its flag (R137). -/
theorem placeNak_slot {x : Receiver} (reason : NakReason) (h : x.nakSlot.isSome = true → x.nakOutstanding = true)
    (hslot : (x.placeNak reason).nakSlot.isSome = true) : (x.placeNak reason).nakOutstanding = true := by
  unfold Receiver.placeNak at hslot ⊢
  split at hslot
  · rw [if_pos ‹_›]; exact h hslot
  · rw [if_neg ‹_›]

theorem checkFrame_slot {x : Receiver} (f : DataFrame) (h : x.nakSlot.isSome = true → x.nakOutstanding = true) :
    (x.checkFrame f).nakSlot.isSome = true → (x.checkFrame f).nakOutstanding = true := by
  unfold Receiver.checkFrame
  split
  · split
    · exact nofun
    · exact h
  · split
    · exact h
    · exact placeNak_slot .gap h

theorem bogus_records (s : State) (q : Seq) : KeepsRecords J s (s.bogus q) :=
  (offerFault_records s _ _ _ _ _).trans (linkLoss_records _ _)

theorem sweepTest_owners (s : State) (w : WinIdx) : SameOwners s (s.sweepTest w) := by
  rw [sweepTest_eq]; exact { SameOwners.refl s with }

theorem acknowledgeEntry_owners (s : State) (e : JournalEntry) : SameOwners s (s.acknowledgeEntry e) := by
  have hanswer : SameOwners s (s.answerAcked e) := answerTags_owners s _ _
  cases hk : e.kind with
  | update => rw [acknowledgeEntry_update s hk]; exact { hanswer with }
  | sweep => rw [acknowledgeEntry_sweep s hk]; exact { hanswer.trans (sweepTest_owners _ e.window) with }
  | mark =>
    rw [acknowledgeEntry_mark s hk]
    exact ⟨hanswer.role, hanswer.link, hanswer.rx, rfl, rfl, hanswer.pin⟩

theorem acknowledge_owners (n : Nat) (s : State) : SameOwners s (State.acknowledge n s) := by
  induction n generalizing s with
  | zero => exact .refl s
  | succ n ih =>
    cases he : s.journal.entries with
    | nil => rw [State.acknowledge, he]; exact .refl s
    | cons e rest =>
      rw [acknowledge_cons n he]
      have hrest : SameOwners s (s.withEntries rest) := { SameOwners.refl s with }
      exact hrest.trans ((acknowledgeEntry_owners _ e).trans (ih _))

/-- Progress in session starts the acknowledgment timer again while an entry is SENT (R120, R126). -/
theorem progress_records {s : State} (hin : s.inSession) (k : Nat) : KeepsRecords J s (s.progress k) := by
  have h := acknowledge_owners (k + 1) s
  have hin' : (State.acknowledge (k + 1) s).inSession := h.inSession.2 hin
  refine ⟨?_, fun _ ⟨hsend, _, _⟩ => ⟨iff_of_true ?_ hin', ?_, fun _ => hin'⟩,
    fun hs => hs.of_rx h.rx fun hsink => (nomatch hin.1.symm.trans hsink.1),
    fun hs => hs.of_role (congrArg Link.test h.link) fun _ => h.role, h.pin⟩
  · intro hs
    rw [State.progress, State.withSeq_role, State.withSeq_link, h.role, h.link]
    exact hs
  · rw [State.progress, State.withSeq_seq, h.lastSend]
    exact hsend.2 hin
  · rw [State.progress, State.withSeq_seq, State.withSeq_journal]
    by_cases hzero : (State.acknowledge (k + 1) s).journal.sentCount = 0
    · rw [if_pos hzero, hzero]
      exact iff_of_false nofun (lt_irrefl 0)
    · rw [if_neg hzero]
      exact iff_of_true rfl (Nat.pos_of_ne_zero hzero)

theorem reconcile_records (s : State) (f q : Seq) : KeepsRecords J s (s.reconcile f q) := by
  have hprocessed (u : State) : KeepsRecords J u (u.withSeq { u.seq with processed := f }) := ⟨id, fun _ => id, id, id, rfl⟩
  exact .cond fun _ => (suspendWhere_records s Window.enabled .missingReport).trans ((markAll_records _).trans
    ((hprocessed _).trans ((offerFault_records _ _ _ _ _ _).trans (raise_records _ _))))

theorem takeAck_records {s : State} (hin : s.inSession) (q f : Seq) : KeepsRecords J s (s.takeAck q f) := by
  unfold State.takeAck
  split
  · exact reconcile_records s f q
  · exact (progress_records hin _).trans (reconcile_records _ f q)
  all_goals exact bogus_records s q

/-- A sequence in flight is that of a SENT entry (R117). -/
theorem place_inFlight {j : Journal} {q : Seq} {k : Nat} (h : j.place q = .inFlight k) : 0 < j.entries.countP (·.sent) := by
  unfold Journal.place at h
  split at h
  · exact nomatch h
  · split at h
    · rename_i k' hfind
      obtain ⟨hlt, hat, -⟩ := List.findIdx?_eq_some_iff_getElem.1 hfind
      simp only [Bool.and_eq_true] at hat
      exact List.countP_pos_iff.2 ⟨_, List.getElem_mem hlt, hat.1⟩
    · split at h
      · exact nomatch h
      · split at h <;> exact nomatch h

theorem takeNak_records {s : State} (hj : J → JournalInv s) (hin : s.inSession) (q : Seq) :
    KeepsRecords J s (s.takeNak q) := by
  unfold State.takeNak
  split
  · rename_i k hplace
    exact askRewind_records hin fun h hk =>
      rewindFrom_head_sent ((journalInv_iff s).1 (hj h)).oldest hk (place_inFlight hplace)
  · exact .refl s
  all_goals exact bogus_records s q

theorem takeReport_records (s : State) (r : Report) : KeepsRecords J s (s.takeReport r) := by
  have hreported : KeepsRecords J s (s.markReported r.seq) := mapEntries_records s fun e => by split <;> rfl
  have hwindow (u : State) (a : Option (WinIdx × Nat)) : KeepsRecords J u (u.reportWindow a) := by
    unfold State.reportWindow
    split
    · exact .refl u
    · exact (suspendWindow_records u _ _).trans (markDirty_records _ _ _)
  have hprocessed (u : State) : KeepsRecords J u (u.withSeq { u.seq with processed := u.seq.processed + 1 }) :=
    ⟨id, fun _ => id, id, id, rfl⟩
  exact hreported.trans ((hwindow _ _).trans ((hprocessed _).trans
    ((offerFault_records _ _ _ _ _ _).trans (raise_records _ _))))

theorem upHello_records (s : State) (h : Hello) : KeepsRecords J s (s.upHello h) :=
  (linkLoss_records s .link).trans ((enterHail_records _).trans (.cond fun hh => hailHello_records hh h))

theorem signalLost_records (s : State) : KeepsRecords J s s.signalLost := by
  unfold State.signalLost
  cases hl : s.link.state with
  | hail => exact leaveLink_records (by rw [hl]; decide)
  | up => exact linkLoss_records s .link
  | down | clash => exact .refl s

/-! ### The host port -/

theorem acceptRequest_records (s : State) (q : QueuedRequest) : KeepsRecords J s (s.acceptRequest q) := by
  have hpoison : KeepsRecords J s
      (if q.isPoisoned then s.offerFault .poisonWrite (s.owner q.line.granule) (some q.line) none none else s) :=
    .cond fun _ => offerFault_records s _ _ _ _ _
  exact hpoison.trans (withHost_records _ _)

theorem hostPortReset_records (s : State) : KeepsRecords J s s.hostPortReset := by
  have hentries : KeepsRecords J s (s.withEntries (s.journal.entries.map fun e => { e with heldTags := [] })) :=
    mapEntries_records s fun _ => rfl
  exact ⟨hentries.link, hentries.send, hentries.sink, hentries.test, rfl⟩

/-! ### The service port -/

theorem setWindow_records (s : State) (echo : Byte) (a : SetWindowArgs) : KeepsRecords J s (s.setWindow echo a) := by
  have hrefuse (r : Reason) : KeepsRecords J s (s.refuse echo 2 r) := refuse_records s _ _ _
  unfold State.setWindow
  split
  · exact hrefuse _
  · refine .ite (fun _ => reply_records s _ _ _ _ _) fun _ => ?_
    split
    · exact .ite (fun _ => hrefuse _) fun _ => .ite (fun _ => hrefuse _) fun _ => .ite (fun _ => hrefuse _) fun _ =>
        (withWindows_records s _).trans (replyDone_records _ _ _ _)
    · exact hrefuse _
    · exact hrefuse _

theorem tryEnable_records (s : State) (echo : Byte) (n : Nat) : KeepsRecords J s (s.tryEnable echo n) := by
  have hrefuse (r : Reason) : KeepsRecords J s (s.refuse echo 4 r) := refuse_records s _ _ _
  have henable (w : WinIdx) : KeepsRecords J s (s.enableWindow w) :=
    .ite (fun _ => (withWindows_records s _).trans (markWindow_records _ w)) fun _ => withWindows_records s _
  unfold State.tryEnable
  split
  · exact hrefuse _
  · exact .ite (fun _ => replyDone_records s _ _ _) fun _ => .ite (fun _ => hrefuse _) fun _ =>
      .ite (fun _ => hrefuse _) fun _ => .ite (fun _ => hrefuse _) fun _ => settleDone_records _ _ _ (henable _)

theorem disableWindow_records (s : State) (w : WinIdx) : KeepsRecords J s (s.disableWindow w) := by
  rw [disableWindow_eq]
  exact (withWindows_records s _).trans ((withDirty_records _ _).trans (withSweep_records _ _))

theorem tryStartSweep_records (s : State) (echo : Byte) (n scope : Nat) :
    KeepsRecords J s (s.tryStartSweep echo n scope) := by
  have hrefuse (r : Reason) : KeepsRecords J s (s.refuse echo 6 r) := refuse_records s _ _ _
  have hstart (w : WinIdx) (full : Bool) : KeepsRecords J s (s.startSweep w full) := by
    have hmark : KeepsRecords J s (if full then s.markWindow w else s) := .cond fun _ => markWindow_records s w
    exact hmark.trans ((withWindows_records _ _).trans (sweepTest_records _ w))
  unfold State.tryStartSweep
  split
  · refine .ite (fun _ => hrefuse _) fun _ => .ite (fun _ => hrefuse _) fun _ => ?_
    split
    · exact hrefuse _
    · exact replyDone_records s _ _ _
    · exact replyDone_records s _ _ _
    · exact settleDone_records _ _ _ (hstart _ _)
  · exact hrefuse _
  · exact hrefuse _

theorem tryPause_records (s : State) (echo : Byte) (n : Nat) : KeepsRecords J s (s.tryPause echo n) := by
  unfold State.tryPause
  split
  · exact refuse_records s _ _ _
  · split
    · exact refuse_records s _ _ _
    · exact replyDone_records s _ _ _
    all_goals exact settleDone_records _ _ _ (suspendWindow_records s _ _)

theorem assumeSource_records (s : State) (echo : Byte) : KeepsRecords J s (s.assumeSource echo) := by
  refine .ite (fun _ => reply_records s _ _ _ _ _) fun hrun => ?_
  have hchange (new : Role) : KeepsRecords J s (s.changeRole new) :=
    changeRole_records new fun _ => eq_false_of_ne_true hrun
  split
  · exact (hchange .source).trans (replyDone_records _ _ _ _)
  · exact replyDone_records s _ _ _
  · exact (hchange .draining).trans ((drainCheck_records _).trans (reply_records _ _ _ _ _ _))
  · exact reply_records s _ _ _ _ _

theorem assumeSink_records (s : State) (echo : Byte) (force : Bool) : KeepsRecords J s (s.assumeSink echo force) := by
  refine .ite (fun _ => reply_records s _ _ _ _ _) fun hrun => ?_
  have hsink : KeepsRecords J s ((s.changeRole .sink).replyDone echo 9 []) :=
    (changeRole_records .sink fun _ => eq_false_of_ne_true hrun).trans (replyDone_records _ _ _ _)
  split
  · exact hsink
  · exact .ite (fun _ => hsink) fun _ =>
      .ite (fun _ => (forcedSink_records ‹_›).trans (replyDone_records _ _ _ _)) fun _ => refuse_records s _ _ _
  · exact replyDone_records s _ _ _
  · exact reply_records s _ _ _ _ _

theorem setOverride_records (s : State) (echo : Byte) (v : Option Bool) : KeepsRecords J s (s.setOverride echo v) := by
  unfold State.setOverride
  split
  · exact refuse_records s _ _ _
  · exact .ite (fun _ => replyDone_records s _ _ _) fun _ => settleDone_records _ _ _ (withService_records s _)

theorem readFault_records (s : State) (echo : Byte) : KeepsRecords J s (s.readFault echo) := by
  unfold State.readFault
  split
  · exact reply_records s _ _ _ _ _
  · exact (withService_records s _).trans (replyDone_records _ _ _ _)

/-! ### The loopback test -/

theorem beNat_lt (l : List Byte) : beNat l < 256 ^ l.length := by
  induction l using List.reverseRecOn with
  | nil => decide
  | append_singleton l b ih =>
    rw [beNat_append_one, List.length_append, List.length_singleton, Nat.pow_succ]
    have hb := b.isLt
    omega

/-- A field of `n` bytes holds `n` bytes at most. -/
theorem argNat_lt (args : List Byte) (at_ n : Nat) : argNat args at_ n < 256 ^ n := by
  refine (beNat_lt _).trans_le (Nat.pow_le_pow_right (by decide) ?_)
  exact (List.length_take_le ..)

/-- A new test record replaces the old one. -/
theorem withTest_records {s : State} {x : TestRecord}
    (h : TestInv s → TestInv (s.withLink { s.link with test := x })) :
    KeepsRecords J s (s.withLink { s.link with test := x }) :=
  ⟨id, fun _ => id, id, h, rfl⟩

/-- A test of at least one frame begins with its first frame in the loop (R113, R114). -/
theorem testStart_eq {n : BitVec 16} (hn : n ≠ 0) :
    TestRecord.start n =
      { running := true, requested := n, sent := 1, good := 0, damaged := 0, outcome := .noOutcome, inLoop := some 0 } :=
  if_neg hn.symm

theorem testStart_inv {s : State} {n : Nat} (hr : s.role = .isolated) (hn : n ≠ 0) (hlt : n < 65536) :
    TestInv (s.withLink { s.link with test := TestRecord.start (BitVec.ofNat 16 n) }) := by
  have hnat : (BitVec.ofNat 16 n).toNat = n := Nat.mod_eq_of_lt hlt
  have hne : BitVec.ofNat 16 n ≠ 0 := by
    intro h
    rw [h] at hnat
    exact hn hnat.symm
  unfold TestInv
  rw [State.withLink_link, testStart_eq hne, if_pos rfl]
  refine ⟨hr, 0, rfl, rfl, rfl, ?_⟩
  rw [hnat]
  exact Nat.pos_of_ne_zero hn

theorem linkTest_records (s : State) (echo : Byte) {n : Nat} (hlt : n < 65536) :
    KeepsRecords J s (s.linkTest echo n) :=
  .ite (fun _ => refuse_records s _ _ _) fun hn => .ite (fun _ => refuse_records s _ _ _) fun hr =>
    .ite (fun _ => reply_records s _ _ _ _ _) fun _ =>
      (withTest_records fun _ => testStart_inv (not_not.1 hr) hn hlt).trans (reply_records _ _ _ _ _ _)

/-- A return counts one, good or damaged, and nothing else (R114). -/
theorem countReturn_fields (t : TestRecord) (good : Bool) :
    (t.countReturn good).running = t.running ∧ (t.countReturn good).requested = t.requested ∧
      (t.countReturn good).sent = t.sent ∧
      ((t.countReturn good).good = t.good + 1 ∧ (t.countReturn good).damaged = t.damaged ∨
        (t.countReturn good).good = t.good ∧ (t.countReturn good).damaged = t.damaged + 1) := by
  cases good
  · exact ⟨rfl, rfl, rfl, .inr ⟨rfl, rfl⟩⟩
  · exact ⟨rfl, rfl, rfl, .inl ⟨rfl, rfl⟩⟩

/-- A frame that returns before the last one is counted, and the next one is sent (R114). -/
theorem testReturn_inv {s : State} {k : BitVec 16} {good : Bool} (h : TestInv s) (hk : s.link.test.inLoop = some k)
    (hnot : k + 1 ≠ (s.link.test.countReturn good).requested) :
    TestInv (s.withLink { s.link with test := (s.link.test.countReturn good).sendNext }) := by
  obtain ⟨hrunning, hrequested, hsent, hcounts⟩ := countReturn_fields s.link.test good
  unfold TestInv at h
  split at h
  case isFalse => exact nomatch h.symm.trans hk
  case isTrue hrun =>
    obtain ⟨hr, k', hk', hnext, hsum, hle⟩ := h
    obtain rfl : k = k' := Option.some.inj (hk.symm.trans hk')
    have hsentk : s.link.test.sent = k + 1 := by bv_omega
    have hmore : (s.link.test.countReturn good).sent ≠ (s.link.test.countReturn good).requested := by
      rwa [hsent, hsentk]
    unfold TestInv
    rw [State.withLink_link, TestRecord.sendNext, if_neg hmore]
    rw [hrequested] at hnot
    refine (if_pos (hrunning.trans hrun)).mpr ⟨hr, _, rfl, ?_, ?_, ?_⟩
    · show (s.link.test.countReturn good).sent.toNat + 1 = ((s.link.test.countReturn good).sent + 1).toNat
      rw [hsent]
      bv_omega
    · show (s.link.test.countReturn good).good.toNat + (s.link.test.countReturn good).damaged.toNat =
        (s.link.test.countReturn good).sent.toNat
      rw [hsent]
      rcases hcounts with ⟨hg, hd⟩ | ⟨hg, hd⟩ <;> rw [hg, hd] <;> bv_omega
    · show ((s.link.test.countReturn good).sent + 1).toNat ≤ (s.link.test.countReturn good).requested.toNat
      rw [hsent, hrequested]
      bv_omega

end Sys2Proof.Machine
end

section
/-! The cold reset pin held: what the pins of the unit show, and that no command but a pin level has an effect. -/

namespace Sys2Proof.Machine

theorem laneOutput_held {s : State} (h : s.coldPin = true) : s.laneOutput = .undriven := if_pos h

theorem laneOutput_idle {s : State} (h : s.coldPin = false) (hl : s.link.lane = none) : s.laneOutput = .idleFill := by
  unfold State.laneOutput
  rw [h, hl]
  rfl

theorem laneOutput_frame {s : State} {f : Frame} (h : s.coldPin = false) (hl : s.link.lane = some f) :
    s.laneOutput = .frame f := by
  unfold State.laneOutput
  rw [h, hl]
  rfl

theorem attention_held {s : State} (h : s.coldPin = true) : s.attention = false := by
  rw [State.attention, h]
  rfl

/-- No request, message, frame, completion, timer or verdict is taken, nothing is examined and nothing granted (R184). -/
theorem exec_held {s : State} (h : s.coldPin = true) (c : Instr) (hreset : c ≠ .hostPortReset)
    (hrelease : c ≠ .hostPortResetRelease) (hcold : ∀ edge, c ≠ .coldReset edge) : exec c s = .next s := by
  have htake (f : State → State) : Host.Outcome.next (s.take f) = (.next s : Host.Outcome State Fault Refusal) :=
    congrArg _ (take_held f h)
  cases c with
  | hostPortReset => exact absurd rfl hreset
  | hostPortResetRelease => exact absurd rfl hrelease
  | coldReset edge => exact absurd rfl (hcold edge)
  | portGrant => exact congrArg _ (prompt_held h)
  | applyHeadExamine => exact congrArg _ (unlessHeld_held _ h)
  | _ => exact htake _

theorem step_held {s : State} (h : s.coldPin = true) (hq : s.pending = []) : step s = .next s := by
  rw [step_idle hq (dueSteps_held h), tick_held h]

/-- Settles O60: every command but those of the pins is taken through `State.take`, or acts under the released pin alone. -/
theorem heldPinStopsTheUnit : Obligations.HeldPinStopsTheUnit :=
  ⟨fun _ h => ⟨laneOutput_held h, attention_held h, step_held h, exec_held h, exec_hostPortReset_held h,
      exec_hostPortResetRelease (.inl h)⟩,
    fun _ h => ⟨laneOutput_idle h, fun _ => laneOutput_frame h⟩⟩

end Sys2Proof.Machine
end

section
/-! Every command and every step keeps the records to the states that use them. -/

namespace Sys2Proof.Machine

/-- The command answers a next state that keeps the records of `s`, those of the sequencer in a legal journal, or that has
every cold reset value. -/
def RecordsOutcome (s : State) (o : Host.Outcome State Fault Refusal) : Prop :=
  ∃ t, o = .next t ∧ (KeepsRecords (JournalInv s) s t ∨ ColdValues t)

theorem RecordsOutcome.of_keeps {s t : State} (h : KeepsRecords (JournalInv s) s t) : RecordsOutcome s (.next t) :=
  ⟨t, rfl, .inl h⟩

theorem RecordsOutcome.of_cold {s t : State} (h : ColdValues t) : RecordsOutcome s (.next t) := ⟨t, rfl, .inr h⟩

theorem take_records (s : State) {f : State → State}
    (hf : ∀ u, (JournalInv s → JournalInv u) → KeepsRecords (JournalInv s) u (f u)) :
    RecordsOutcome s (.next (s.take f)) :=
  .of_keeps (.ite (fun _ => .refl s) fun _ =>
    (prompt_records s).trans (hf _ (journalMoves_keep (prompt_journal s))))

theorem takeCommand_records (s : State) (echo code : Byte) (args : List Byte) {f : State → State}
    (hf : ∀ u, KeepsRecords (JournalInv s) u (f u)) : RecordsOutcome s (.next (s.takeCommand echo code args f)) :=
  take_records s fun u _ => .ite (fun _ => hf u) fun _ => refuse_records u _ _ _

theorem coldReset_records (s : State) (edge : ColdPinEdge) : RecordsOutcome s (execColdReset edge s) := by
  cases edge with
  | asserted => exact .of_cold (cold_values _ true)
  | released signal =>
    cases h : s.coldPin with
    | true => exact ⟨_, exec_coldReset_held signal h, .inr (cold_values _ false)⟩
    | false => exact ⟨_, exec_coldReset_released signal h, .inl (prompt_records s)⟩

theorem testFrameReturn_records (s : State) (bytes : List Byte) : RecordsOutcome s (execTestFrameReturn bytes s) := by
  refine take_records s fun u _ => ?_
  split
  · exact .refl u
  · refine .ite (fun _ => ?_) fun hnot => withTest_records fun h => testReturn_inv h ‹_› hnot
    exact (withTest_records fun _ => testInv_of_idle rfl rfl).trans (raise_records _ _)

theorem receiveHello_records (s : State) (h : Hello) : RecordsOutcome s (execReceiveHello h s) := by
  refine take_records s fun u _ => .cond fun _ => ?_
  cases hl : u.link.state with
  | down | clash => exact .refl u
  | hail => exact (hailHello_records hl h).trans (settle_records _)
  | up =>
    exact .ite (fun _ => noteReceipt_records u) fun _ =>
      (noteReceipt_records u).trans ((upHello_records _ h).trans (settle_records _))

/-- Every command answers a next state, and keeps the records or sets the cold reset values. -/
theorem exec_records (i : Instr) (s : State) : RecordsOutcome s (exec i s) := by
  cases i with
  | hostRequest r =>
    exact take_records s fun u _ => .ite (fun _ => .refl u) fun _ => .ite (fun _ => offerFault_records u _ _ _ _ _)
      fun _ => (acceptRequest_records u _).trans (settle_records _)
  | hostPortReset =>
    exact .of_keeps (.ite (fun _ => withHost_records s _) fun _ => .ite (fun _ => prompt_records s) fun _ =>
      (prompt_records s).trans (hostPortReset_records _))
  | hostPortResetRelease => exact .of_keeps ((prompt_records s).trans (withHost_records _ _))
  | coldReset edge => exact coldReset_records s edge
  | portGrant => exact .of_keeps (prompt_records s)
  | memoryCompletion c =>
    refine take_records s fun u _ => ?_
    split
    · exact .refl u
    · exact (idlePort_records u).trans ((completeFor_records _ _ c).trans (settle_records _))
  | applyHeadExamine => exact .of_keeps (.ite (fun _ => .refl s) fun _ => examineNow_records s)
  | drainEnd => exact take_records s fun u _ => drainCheck_records u
  | stallExpiry => exact take_records s fun u _ => expireStall_records u
  | holdExpiry tag => exact take_records s fun u _ => expireHold_records u tag
  | ackTimerExpiry => exact take_records s fun u _ => expireTimer_records u .ack
  | probeIdleExpiry => exact take_records s fun u _ => expireTimer_records u .probe
  | silenceExpiry => exact take_records s fun u _ => expireTimer_records u .quiet
  | helloRepeat => exact take_records s fun u _ => repeatHello_records u
  | laneSignalChange signal =>
    refine take_records s fun u _ => .ite (fun _ => .refl u) fun _ => ?_
    cases signal with
    | absent => exact (signal_records u _).trans ((signalLost_records _).trans (settle_records _))
    | present => exact (signal_records u _).trans (settle_records _)
  | damagedFrame bytes =>
    exact take_records s fun u _ => .cond fun _ => (count_records u _).trans
      (.cond fun h => (withRx_records ((toChecker_iff _).1 h) (placeNak_slot .damaged)).trans (settle_records _))
  | receiveHello h => exact receiveHello_records s h
  | receiveDataFrame f =>
    exact take_records s fun u _ => receive_records u fun ⟨h, _⟩ =>
      withRx_records ((toChecker_iff _).1 h) (checkFrame_slot f)
  | receiveProbe epoch =>
    exact take_records s fun u _ => receive_records u fun ⟨h, _⟩ => withRx_records ((toChecker_iff _).1 h) id
  | receiveAck epoch q f =>
    exact take_records s fun u _ => receive_records u fun ⟨h, _⟩ => takeAck_records ((toSequencer_iff _).1 h) q f
  | receiveNak epoch q reason =>
    exact take_records s fun u hu => receive_records u fun ⟨h, _⟩ =>
      takeNak_records (fun hj => journalMoves_keep (noteReceipt_same u).moves (hu hj)) ((toSequencer_iff _).1 h) q
  | receiveReport r => exact take_records s fun u _ => receive_records u fun _ => takeReport_records _ r
  | receiveTestFrame pattern payload => exact take_records s fun u _ => .cond fun _ => noteReceipt_records u
  | frameEnd =>
    refine take_records s fun u _ => ?_
    split
    · exact .refl u
    · exact (lane_records u none).trans (settleWith_records _ _)
  | testFrameReturn bytes => exact testFrameReturn_records s bytes
  | badMessage bytes =>
    exact take_records s fun u _ => .ite (fun _ => reply_records u _ _ _ _ _) fun _ => reply_records u _ _ _ _ _
  | unknownCommand echo code args => exact take_records s fun u _ => reply_records u _ _ _ _ _
  | getStatus echo args => exact takeCommand_records s _ _ _ fun u => replyDone_records u _ _ _
  | setWindow echo args => exact takeCommand_records s _ _ _ fun u => setWindow_records u _ _
  | getWindow echo args =>
    refine takeCommand_records s _ _ _ fun u => ?_
    split
    · exact refuse_records u _ _ _
    · exact replyDone_records u _ _ _
  | enableWindow echo args => exact takeCommand_records s _ _ _ fun u => tryEnable_records u _ _
  | disableWindow echo args =>
    refine takeCommand_records s _ _ _ fun u => ?_
    split
    · exact refuse_records u _ _ _
    · exact .ite (fun _ => settleDone_records _ _ _ (disableWindow_records u _)) fun _ => replyDone_records u _ _ _
  | startSweep echo args => exact takeCommand_records s _ _ _ fun u => tryStartSweep_records u _ _ _
  | pauseWindow echo args => exact takeCommand_records s _ _ _ fun u => tryPause_records u _ _
  | assumeSource echo args => exact takeCommand_records s _ _ _ fun u => assumeSource_records u _
  | assumeSink echo args =>
    refine takeCommand_records s _ _ _ fun u => ?_
    split
    · exact refuse_records u _ _ _
    · exact assumeSink_records u _ _
  | isolate echo args =>
    exact takeCommand_records s _ _ _ fun u => .ite (fun _ => replyDone_records u _ _ _) fun hr =>
      (changeRole_records .isolated fun h => absurd h hr).trans (replyDone_records _ _ _ _)
  | setTimers echo args => exact takeCommand_records s _ _ _ fun u => setTimers_records u _ _
  | setMask echo args =>
    exact takeCommand_records s _ _ _ fun u => (withService_records u _).trans (replyDone_records _ _ _ _)
  | readEvents echo args =>
    exact takeCommand_records s _ _ _ fun u => (withService_records u _).trans (replyDone_records _ _ _ _)
  | readFault echo args => exact takeCommand_records s _ _ _ fun u => readFault_records u _
  | getMarks echo args => exact takeCommand_records s _ _ _ fun u => replyDone_records u _ _ _
  | setOverride echo args => exact takeCommand_records s _ _ _ fun u => setOverride_records u _ _
  | getStats echo args => exact takeCommand_records s _ _ _ fun u => replyDone_records u _ _ _
  | linkTest echo args => exact takeCommand_records s _ _ _ fun u => linkTest_records u _ (argNat_lt args 0 2)
  | restart echo args =>
    exact takeCommand_records s _ _ _ fun u => (warmReset_records u).trans (replyDone_records _ _ _ _)

/-! ### Steps -/

/-- A step is a command on a state that differs in the model's own fields alone, or a tick. -/
theorem step_records {s t : State} (hstep : step s = .next t) :
    KeepsRecords (JournalInv s) s t ∨ ColdValues t := by
  have hexec (i : Instr) {u : State} (hj : JournalInv s → JournalInv u) (hu : KeepsRecords (JournalInv s) s u)
      (h : exec i u = .next t) : KeepsRecords (JournalInv s) s t ∨ ColdValues t := by
    obtain ⟨t', ht', hkeeps⟩ := exec_records i u
    cases ht'.symm.trans h
    exact hkeeps.imp (fun k => hu.trans { k with send := fun hs => k.send (hj hs) }) id
  have hchosen : KeepsRecords (JournalInv s) s s.chosen := .ite (fun _ => .refl s) fun _ => withFreeCount_records s _
  have hchosen_journal : JournalInv s → JournalInv s.chosen := by
    unfold State.chosen
    split <;> exact id
  unfold step at hstep
  split at hstep
  · rename_i c rest _
    exact hexec c (u := s.withPending rest) id ⟨id, fun _ => id, id, id, rfl⟩ hstep
  · split at hstep
    · exact hexec _ hchosen_journal hchosen hstep
    · injection hstep with hstep
      subst hstep
      exact .inl (.ite (fun _ => .refl s) fun _ => ⟨id, fun _ => id, id, id, rfl⟩)

/-- A command under an asserted pin changes the level of a pin at most (R184), so that the cold reset values stay. -/
theorem exec_held_cold {s : State} (h : s.coldPin = true) (hs : ColdValues s) (c : Instr) :
    ∃ t, exec c s = .next t ∧ ColdValues t := by
  cases c with
  | hostPortReset => exact ⟨_, exec_hostPortReset_held h, hs⟩
  | hostPortResetRelease => exact ⟨_, exec_hostPortResetRelease (.inl h), hs⟩
  | coldReset edge =>
    cases edge with
    | asserted => exact ⟨_, exec_coldReset_asserted s, cold_values _ _⟩
    | released signal => exact ⟨_, exec_coldReset_held signal h, cold_values _ _⟩
  | _ => exact ⟨s, exec_held h _ nofun nofun (fun _ => nofun), hs⟩

theorem step_held_cold {s t : State} (h : s.coldPin = true) (hs : ColdValues s) (hstep : step s = .next t) :
    ColdValues t := by
  cases hq : s.pending with
  | nil =>
    cases (step_held h hq).symm.trans hstep
    exact hs
  | cons c rest =>
    obtain ⟨t', ht', hcold⟩ := exec_held_cold (s := s.withPending rest) h hs c
    have hexec : exec c (s.withPending rest) = .next t := by
      unfold step at hstep
      rwa [hq] at hstep
    cases ht'.symm.trans hexec
    exact hcold

/-! ### The cold reset values -/

theorem ColdValues.linkTimes {s : State} (h : ColdValues s) : LinkTimes s.role s.link := by
  obtain ⟨-, -, -, -, -, -, -, -, hlink, -⟩ := h
  rw [hlink]
  exact ⟨⟨nofun, nofun⟩, fun h => h.elim nofun nofun, fun _ h => absurd rfl h⟩

theorem ColdValues.sendTimes {s : State} (h : ColdValues s) : SendTimes s := by
  obtain ⟨-, -, -, -, -, hjournal, -, -, hlink, hack, hsend, -⟩ := h
  have hdown : s.link.state = .down := congrArg Link.state hlink
  exact .stopped (inSession_not_down hdown) hsend hack (by rw [hjournal]; rfl)

theorem ColdValues.sinkInv {s : State} (h : ColdValues s) : SinkInv s := by
  obtain ⟨-, -, -, -, -, -, -, -, -, -, -, -, -, -, -, -, -, hnak, hslot, hack, hreply, -, hreports, -⟩ := h
  refine ⟨fun h => ?_, fun _ => ⟨hnak, hack, hreply, hreports⟩⟩
  rw [hslot] at h
  exact nomatch h

theorem ColdValues.testInv {s : State} (h : ColdValues s) : TestInv s := by
  obtain ⟨-, -, -, -, -, -, -, -, hlink, -⟩ := h
  exact testInv_of_idle (by rw [hlink]) (by rw [hlink])

/-- Settles O57: every command keeps each record where its own block changes it, and the cold reset values hold none. -/
theorem stepsKeepRecordsToTheirStates : Obligations.StepsKeepRecordsToTheirStates := by
  refine ⟨fun s t hs hj hrecords hstep => ?_, fun s t hs hstep => ?_, fun s t hs hstep => ?_, fun s t hs hstep hpin => ?_⟩
  · obtain ⟨hlink, hsend⟩ := (linkRecordInv_iff hs).1 hrecords
    refine (linkRecordInv_iff (stepsKeepTheSession s t hs hstep)).2 ?_
    exact (step_records hstep).elim (fun h => ⟨h.link hlink, h.send hj hsend⟩) fun h => ⟨h.linkTimes, h.sendTimes⟩
  · exact (step_records hstep).elim (fun h => h.sink hs) ColdValues.sinkInv
  · exact (step_records hstep).elim (fun h => h.test hs) ColdValues.testInv
  · rcases step_records hstep with h | h
    · have hheld : s.coldPin = true := h.pin.symm.trans hpin
      exact step_held_cold hheld (hs hheld) hstep
    · exact h

end Sys2Proof.Machine
end

section
/-! The link states: the lane signal, HAIL, the HELLO, and the frames that no one heeds. -/

namespace Sys2Proof.Machine

/-- HAIL is entered from DOWN, by a SOURCE with an advanced epoch (R102, R103). -/
theorem enterHail_taken {s : State} (hl : s.link.state = .down) (hr : s.role = .source ∨ s.role = .sink)
    (hsignal : s.link.signal = .present) (htest : s.link.test.running = false) :
    s.enterHail =
      s.withLink
        { s.link with
          state := .hail, helloDue := true, lastHello := none
          epoch := if s.role = .source then nextEpoch s.link.epoch else s.link.epoch } :=
  if_pos ⟨hl, hr, hsignal, htest⟩

/-! ### LANE_SIGNAL_CHANGE -/

theorem signalLost_still {s : State} (h : s.link.state = .down ∨ s.link.state = .clash) : s.signalLost = s := by
  rw [State.signalLost]
  rcases h with h | h <;> rw [h]

theorem signalLost_hail {s : State} (h : s.link.state = .hail) : s.signalLost = s.leaveLink := by
  rw [State.signalLost, h]

theorem signalLost_up {s : State} (h : s.link.state = .up) : s.signalLost = s.linkLoss .link := by
  rw [State.signalLost, h]

theorem exec_laneSignalChange_same {s : State} {signal : LaneSignal} (h : Ready s) (hs : signal = s.link.signal) :
    exec (.laneSignalChange signal) s = .next s :=
  congrArg Host.Outcome.next ((take_ready _ h).trans (if_pos hs))

/-- The verdict is recorded (R95). -/
def State.withSignal (s : State) (signal : LaneSignal) : State := s.withLink { s.link with signal := signal }

theorem exec_laneSignalChange_absent {s : State} (h : Ready s) (hs : .absent ≠ s.link.signal) :
    exec (.laneSignalChange .absent) s = .next (s.withSignal .absent).signalLost.settle :=
  congrArg Host.Outcome.next ((take_ready _ h).trans (if_neg hs))

theorem exec_laneSignalChange_present {s : State} (h : Ready s) (hs : .present ≠ s.link.signal) :
    exec (.laneSignalChange .present) s = .next (s.withSignal .present).settle :=
  congrArg Host.Outcome.next ((take_ready _ h).trans (if_neg hs))

/-- `settle` changes the link state where HAIL is entered, and nowhere else. -/
theorem settle_linkState (s : State) : s.settle.link.state = s.enterHail.link.state := (settleWith_link s false).1

/-- Settles O41: the verdict by its value, and the link state after `settle` by the entry to HAIL. -/
theorem signalChangeActsByTheLinkState : Obligations.SignalChangeActsByTheLinkState := by
  intro signal s h recorded
  have hrecorded : recorded = s.withSignal signal := rfl
  have hstate : (s.withSignal signal).link.state = s.link.state := rfl
  have hrole : (s.withSignal signal).role = s.role := rfl
  rw [hrecorded]
  refine ⟨exec_laneSignalChange_same h, fun hs hsignal => ?_, fun hs hsignal => ?_⟩ <;> subst hsignal
  · rw [exec_laneSignalChange_absent h hs, ← hstate]
    exact ⟨fun hl => by rw [signalLost_still hl], fun hl => by rw [signalLost_hail hl]; rfl,
      fun hl => by rw [signalLost_up hl]⟩
  · rw [settle_linkState, ← hstate]
    refine ⟨exec_laneSignalChange_present h hs, (settle_same _).link_kept.1, fun hl => ?_, fun hl hr ht => ?_,
      fun hl hr => ?_⟩
    · rw [enterHail_refused fun hc => hl hc.1]
    · rw [enterHail_taken hl hr rfl ht]
      rfl
    · rw [enterHail_refused fun hc => ?_, hl]
      have hsender := hc.2.1
      rw [hrole] at hsender
      rcases hr with hr | hr <;> simp [hr] at hsender

/-! ### Frames that are not received, and frames that are -/

theorem receives_not {s : State} (h : s.link.signal = .absent ∨ s.link.test.running = true) : s.receives = false := by
  rw [State.receives]
  rcases h with h | h <;> simp [h]

/-- Nothing is received under an asserted pin, without the signal, or while the loopback test runs (R95, R115, R184). -/
theorem take_unreceived {s : State} (f : State → State)
    (h : s.coldPin = true ∨ Ready s ∧ (s.link.signal = .absent ∨ s.link.test.running = true)) :
    s.take (fun s => if s.receives then f s else s) = s := by
  rcases h with h | ⟨hready, h⟩
  · exact take_held _ h
  · rw [take_ready _ hready, receives_not h]
    rfl

theorem take_received {s : State} (f : State → State) (h : Ready s) (hsignal : s.link.signal = .present)
    (htest : s.link.test.running = false) : s.take (fun s => if s.receives then f s else s) = f s := by
  rw [take_ready _ h]
  exact if_pos ((receives_iff s).2 ⟨hsignal, htest⟩)

theorem noteReceipt_notUp {s : State} (h : s.link.state ≠ .up) : s.noteReceipt = s := if_neg h

theorem noteReceipt_toChecker (s : State) : s.noteReceipt.toChecker = s.toChecker := by
  unfold State.noteReceipt
  split <;> rfl

theorem noteReceipt_toSequencer (s : State) : s.noteReceipt.toSequencer = s.toSequencer := by
  unfold State.noteReceipt
  split <;> rfl

/-! ### DAMAGED_FRAME and the frames that are discarded -/

/-- One damaged frame more (R99, R179). -/
def State.countDamaged (s : State) : State := s.count fun c => { c with damagedFrames := countUp c.damagedFrames }

theorem exec_damagedFrame {s : State} (bytes : List Byte) (h : Ready s) (hsignal : s.link.signal = .present)
    (htest : s.link.test.running = false) :
    exec (.damagedFrame bytes) s =
      .next
        (if s.toChecker then (s.countDamaged.withRx (s.rx.placeNak .damaged)).settle else s.countDamaged) :=
  congrArg Host.Outcome.next (take_received _ h hsignal htest)

/-- The count leaves a settled unit settled. -/
theorem countDamaged_settle {s : State} (h : Settled s) : (s.countDamaged.withRx s.rx).settle = s.countDamaged := by
  have hsettled : Settled s.countDamaged := h.congr (count_rest _ _)
  exact hsettled

/-- A frame of the data side: one for the receive checker (R100). -/
def DataSide (c : Instr) : Prop := (∃ f, c = .receiveDataFrame f) ∨ ∃ e, c = .receiveProbe e

/-- A frame of the acknowledgment side: one for the transmit sequencer (R100). -/
def AckSide (c : Instr) : Prop :=
  (∃ e q f, c = .receiveAck e q f) ∨ (∃ e q r, c = .receiveNak e q r) ∨ ∃ r, c = .receiveReport r

/-- A TEST frame on the inbound lane. -/
def TestSide (c : Instr) : Prop := ∃ p d, c = .receiveTestFrame p d

theorem exec_unreceived {s : State} {c : Instr} (hc : DataSide c ∨ AckSide c ∨ TestSide c ∨ ∃ h, c = .receiveHello h)
    (h : s.coldPin = true ∨ Ready s ∧ (s.link.signal = .absent ∨ s.link.test.running = true)) : exec c s = .next s := by
  have hlost (f : State → State) := congrArg (Host.Outcome.next (φ := Fault) (ρ := Refusal)) (take_unreceived f h)
  rcases hc with (⟨f, rfl⟩ | ⟨e, rfl⟩) | (⟨e, q, f, rfl⟩ | ⟨e, q, r, rfl⟩ | ⟨r, rfl⟩) | ⟨p, d, rfl⟩ | ⟨h, rfl⟩ <;>
    exact hlost _

/-- A frame that neither the receive checker nor the transmit sequencer takes is noted and discarded (R100). -/
theorem exec_unheeded {s : State} {c : Instr} (h : Ready s) (hsignal : s.link.signal = .present)
    (htest : s.link.test.running = false)
    (hc : DataSide c ∧ ¬ s.sinkSession ∨ AckSide c ∧ ¬ s.inSession ∨ TestSide c) : exec c s = .next s.noteReceipt := by
  have hheard (f : State → State) (hf : f s = s.noteReceipt) :
      Host.Outcome.next (s.take fun s => if s.receives then f s else s) =
        (.next s.noteReceipt : Host.Outcome State Fault Refusal) :=
    congrArg _ ((take_received f h hsignal htest).trans hf)
  rcases hc with ⟨hc, hout⟩ | ⟨hc, hout⟩ | ⟨p, d, rfl⟩
  · rw [← toChecker_iff, ← noteReceipt_toChecker] at hout
    rcases hc with ⟨f, rfl⟩ | ⟨e, rfl⟩ <;> exact hheard _ (if_neg fun h => hout h.1)
  · rw [← toSequencer_iff, ← noteReceipt_toSequencer] at hout
    rcases hc with ⟨e, q, f, rfl⟩ | ⟨e, q, r, rfl⟩ | ⟨r, rfl⟩ <;> exact hheard _ (if_neg fun h => hout h.1)
  · exact hheard _ rfl

/-- Settles O42: a damaged frame by the session and the NAK flag, the others by who would take them. -/
theorem damagedAndUnheededFrames : Obligations.DamagedAndUnheededFrames := by
  unfold Obligations.DamagedAndUnheededFrames
  refine ⟨fun bytes s => ⟨fun h => congrArg Host.Outcome.next (take_unreceived _ h), fun h hsignal htest => ?_⟩,
    fun s c => ⟨exec_unreceived, fun h hsignal htest => ⟨fun hc hup => ?_, fun hc hnot => ?_⟩⟩⟩
  · rw [exec_damagedFrame bytes h hsignal htest, ← countUp_eq]
    refine ⟨fun hout => ?_, fun hin hclear => ?_, fun hin hset hs => ?_⟩
    · rw [if_neg (mt (toChecker_iff s).1 hout)]
      rfl
    · rw [if_pos ((toChecker_iff s).2 hin), Receiver.placeNak, if_neg (by simp [hclear])]
      rfl
    · rw [if_pos ((toChecker_iff s).2 hin), Receiver.placeNak, if_pos hset]
      rw [countDamaged_settle hs]
      rfl
  · rw [← noteReceipt_up hup]
    refine exec_unheeded h hsignal htest ?_
    exact hc.imp (fun ⟨hc, hr⟩ => ⟨hc, fun hin => hr hin.1⟩) (Or.imp_left fun ⟨hc, hr⟩ => ⟨hc, fun hin => hr hin.1⟩)
  · refine (exec_unheeded h hsignal htest ?_).trans (by rw [noteReceipt_notUp hnot])
    exact hc.imp (fun hc => ⟨hc, fun hin => hnot hin.2⟩) (Or.imp_left fun hc => ⟨hc, fun hin => hnot hin.2⟩)

end Sys2Proof.Machine
end

section
/-! HAIL and the HELLO: how a session is opened, and how it starts again. -/

namespace Sys2Proof.Machine

/-! ### The epoch -/

/-- The epoch rises by one and passes from 255 to 1 (R102). -/
theorem nextEpoch_succ {k : Epoch} (h : k.toNat ≤ 254) : (nextEpoch k).toNat = k.toNat + 1 := by
  unfold nextEpoch
  split
  · rename_i hmax
    subst hmax
    exact absurd h (by decide)
  · bv_omega

/-! ### A HELLO in HAIL -/

theorem linkUp_source {s : State} (hr : s.role = .source) :
    s.linkUp =
      ((s.withLink
            { s.link with state := .up, lastReceipt := some s.time, lastHello := none, helloDue := false }).raise
          .linkUp).withSeq
        { s.seq with ackStart := none, lastSend := some s.time, rounds := 0, processed := 0 } := if_pos hr

theorem linkUp_other {s : State} (hr : s.role ≠ .source) :
    s.linkUp =
      (s.withLink
            { s.link with state := .up, lastReceipt := some s.time, lastHello := none, helloDue := false }).raise
        .linkUp := if_neg hr

theorem adopt_eq {s : State} (e : Epoch) (b : Seq) (hr : s.role = .sink) :
    s.adopt e b =
      ((s.withLink
              { s.link with
                epoch := e, state := .up, lastReceipt := some s.time, lastHello := none, helloDue := false }).raise
          .linkUp).withRx
        { s.rx with
          expected := b, lastApplied := b - 1, applyFaults := 0, nakOutstanding := false, nakSlot := none
          ackPending := false, replyOwed := true } := by
  unfold State.adopt
  simp only
  rw [linkUp_other (by simp [hr])]
  rfl

theorem hailHello_sourceSink {s : State} (hr : s.role = .source) (e : Epoch) :
    s.hailHello (.sink e) = if e = s.link.epoch then s.linkUp else s := by
  unfold State.hailHello
  rw [hr]

theorem hailHello_sourceSource {s : State} (hr : s.role = .source) (e : Epoch) (b : Seq) :
    s.hailHello (.source e b) = s.enterClash e := by
  unfold State.hailHello
  rw [hr]

theorem hailHello_sinkSource {s : State} (hr : s.role = .sink) (e : Epoch) (b : Seq) :
    s.hailHello (.source e b) =
      if s.rx.applyQueue.length ≤ 16 ∧ ∀ a ∈ s.rx.applyQueue, a.epoch ≠ e then s.adopt e b else s := by
  unfold State.hailHello
  rw [hr]
  simp [Config.hailLevel]

theorem hailHello_sinkSink {s : State} (hr : s.role = .sink) (e : Epoch) : s.hailHello (.sink e) = s := by
  unfold State.hailHello
  rw [hr]

/-! ### A HELLO in UP -/

/-- Link loss puts the link in DOWN under the role in force (R110). -/
theorem linkLoss_link {s : State} (cause : SuspendCause) (hup : s.link.state = .up) :
    (s.linkLoss cause).link = s.leaveLink.link := by
  cases hr : s.role with
  | source =>
    obtain ⟨u, hu, -, hloss⟩ := linkLoss_source_owners cause ⟨hr, hup⟩
    rw [hloss]
    exact hu.link
  | sink => rw [linkLoss_sink cause hup hr]; rfl
  | isolated | draining => rw [linkLoss_other cause hup (by simp [hr])]; rfl

/-- Link loss raises LINK_DOWN (R110). -/
theorem linkLoss_raises {s : State} (cause : SuspendCause) (hup : s.link.state = .up) :
    (s.linkLoss cause).service.events.getLsbD 1 = true := by
  have hraised : (s.leaveLink.raise .linkDown).service.events.getLsbD 1 = true := by
    show (s.service.events ||| EventCause.linkDown.flag).getLsbD 1 = true
    rw [BitVec.getLsbD_or, show EventCause.linkDown.flag.getLsbD 1 = true by decide, Bool.or_true]
  cases hr : s.role with
  | source =>
    obtain ⟨-, -, -, -, -, -, hservice⟩ :=
      convert_fields ((s.leaveLink.raise .linkDown).suspendWhere Window.capturing cause)
    rw [linkLoss_source cause hup hr, State.withSeq_service, hservice, suspendWhere_eq, State.withService_service]
    simp only
    split
    · rw [BitVec.getLsbD_or, hraised, Bool.true_or]
    · exact hraised
  | sink => rw [linkLoss_sink cause hup hr]; exact hraised
  | isolated | draining => rw [linkLoss_other cause hup (by simp [hr])]; exact hraised

/-- Link loss forgets the last receipt (R110). -/
theorem linkLoss_noteReceipt {s : State} (cause : SuspendCause) (hup : s.link.state = .up) :
    s.noteReceipt.linkLoss cause = s.linkLoss cause := by
  have hleave : s.noteReceipt.leaveLink = s.leaveLink := by rw [noteReceipt_up hup]; rfl
  have hstate : s.noteReceipt.link.state = .up := by rw [noteReceipt_up hup]; exact hup
  have hrole : s.noteReceipt.role = s.role := by rw [noteReceipt_up hup]; rfl
  have hseq : s.noteReceipt.seq = s.seq := by rw [noteReceipt_up hup]; rfl
  cases hr : s.role with
  | source =>
    rw [linkLoss_source cause hup hr, linkLoss_source cause hstate (hrole.trans hr), hleave, hseq]
  | sink => rw [linkLoss_sink cause hup hr, linkLoss_sink cause hstate (hrole.trans hr), hleave]
  | isolated | draining =>
    rw [linkLoss_other cause hup (by simp [hr]), linkLoss_other cause hstate (by simp [hrole, hr]), hleave]

theorem linkLoss_role (s : State) (cause : SuspendCause) : (s.linkLoss cause).role = s.role :=
  (linkLoss_kept s cause).role_eq

/-- After link loss HAIL is entered again (R103, R110). -/
theorem linkLoss_hails {s : State} (hup : s.link.state = .up) (hr : s.role = .source ∨ s.role = .sink)
    (hsignal : s.link.signal = .present) (htest : s.link.test.running = false) :
    (s.linkLoss .link).enterHail =
      (s.linkLoss .link).withLink
        { s.leaveLink.link with
          state := .hail, helloDue := true, lastHello := none
          epoch := if s.role = .source then nextEpoch s.link.epoch else s.link.epoch } := by
  have hlink := linkLoss_link .link hup
  have hrole := linkLoss_role s .link
  rw [enterHail_taken (by rw [hlink]; rfl) (by rwa [hrole]) (by rw [hlink]; exact hsignal) (by rw [hlink]; exact htest),
    hlink, hrole]
  rfl

theorem upHello_hails {s : State} (h : Hello) (hhail : (s.linkLoss .link).enterHail.link.state = .hail) :
    s.upHello h = (s.linkLoss .link).enterHail.hailHello h := if_pos hhail

/-! ### RECEIVE_HELLO -/

theorem exec_receiveHello_hail {s : State} (h : Hello) (hready : Ready s) (hsignal : s.link.signal = .present)
    (htest : s.link.test.running = false) (hl : s.link.state = .hail) :
    exec (.receiveHello h) s = .next (s.hailHello h).settle := by
  refine congrArg Host.Outcome.next ((take_received _ hready hsignal htest).trans ?_)
  rw [hl]

theorem exec_receiveHello_discarded {s : State} (h : Hello) (hready : Ready s) (hsignal : s.link.signal = .present)
    (htest : s.link.test.running = false) (hl : s.link.state = .down ∨ s.link.state = .clash) :
    exec (.receiveHello h) s = .next s := by
  refine congrArg Host.Outcome.next ((take_received _ hready hsignal htest).trans ?_)
  rcases hl with hl | hl <;> rw [hl]

theorem exec_receiveHello_inUp {s : State} (h : Hello) (hready : Ready s) (hsignal : s.link.signal = .present)
    (htest : s.link.test.running = false) (hup : s.link.state = .up) :
    exec (.receiveHello h) s =
      .next (if s.role = .sink ∧ helloFromSink h = true then s.noteReceipt else (s.noteReceipt.upHello h).settle) := by
  refine congrArg Host.Outcome.next ((take_received _ hready hsignal htest).trans ?_)
  rw [hup]

/-- A HELLO in UP that is not a reply is link loss, HAIL, and the HELLO there (R106). -/
theorem exec_receiveHello_restart {s : State} (h : Hello) (hready : Ready s) (hsignal : s.link.signal = .present)
    (htest : s.link.test.running = false) (hup : s.link.state = .up) (hr : s.role = .source ∨ s.role = .sink)
    (hnew : ¬ (s.role = .sink ∧ helloFromSink h = true)) :
    exec (.receiveHello h) s = .next ((s.linkLoss .link).enterHail.hailHello h).settle := by
  have hloss := linkLoss_noteReceipt .link hup
  have hhail : (s.noteReceipt.linkLoss .link).enterHail.link.state = .hail := by
    rw [hloss, linkLoss_hails hup hr hsignal htest]
    rfl
  rw [exec_receiveHello_inUp h hready hsignal htest hup, if_neg hnew, upHello_hails h hhail, hloss]

/-- Settles O43: in HAIL by the role and the sender, otherwise by the link state. -/
theorem helloOpensAndRestartsSessions : Obligations.HelloOpensAndRestartsSessions := by
  refine ⟨fun h s => ⟨fun e hr hh => ?_, fun e b hr hh => ?_, fun e b hr hh => ?_, fun e hr hh => ?_⟩,
    fun h s hready hsignal htest => ?_⟩
  · rw [hh, hailHello_sourceSink hr]
    exact ⟨fun he => (if_pos he).trans (linkUp_source hr), fun he => if_neg he⟩
  · rw [hh, hailHello_sourceSource hr]
    rfl
  · rw [hh, hailHello_sinkSource hr]
    refine ⟨fun hroom hnew => (if_pos ⟨hroom, hnew⟩).trans (adopt_eq e b hr), fun hno => if_neg fun ⟨hroom, hnew⟩ => ?_⟩
    exact hno.elim (fun hfull => absurd hroom (Nat.not_le.2 hfull)) fun ⟨a, ha, he⟩ => hnew a ha he
  · rw [hh, hailHello_sinkSink hr]
  · refine ⟨exec_receiveHello_hail h hready hsignal htest, exec_receiveHello_discarded h hready hsignal htest,
      fun hl hr ⟨e, he⟩ => ?_, fun hl hr hnew => ?_⟩
    · rw [exec_receiveHello_inUp h hready hsignal htest hl, ← noteReceipt_up hl, he]
      exact congrArg Host.Outcome.next (if_pos ⟨hr, rfl⟩)
    · have hnot : ¬ (s.role = .sink ∧ helloFromSink h = true) := by
        rintro ⟨hsink, hfrom⟩
        rcases hnew with hsource | ⟨e, b, rfl⟩
        · exact nomatch hsink.symm.trans hsource
        · exact nomatch hfrom
      have hhail := linkLoss_hails hl hr hsignal htest
      refine ⟨_, rfl, by rw [hhail]; rfl, exec_receiveHello_restart h hready hsignal htest hl hr hnot, ?_, fun hsource => ?_,
        fun hsink => ?_⟩ <;> rw [hhail]
      · exact linkLoss_raises .link hl
      · refine ⟨if_pos hsource, ?_⟩
        rw [State.withLink_journal, linkLoss_source .link hl hsource]
        rfl
      · exact if_neg (by simp [hsink])

end Sys2Proof.Machine
end

section
/-! The end of a frame on a SINK in UP, and in HAIL. -/

namespace Sys2Proof.Machine

/-! ### On a SINK in UP -/

/-- In UP the sink transmitter chooses the frame after the one that ends (R147). -/
theorem frameEnd_sink {s : State} (hin : s.sinkSession) :
    (s.freed.settleWith true).link = s.freed.sinkFrame.link ∧ (s.freed.settleWith true).rx = s.freed.sinkFrame.rx := by
  have hhail : s.freed.enterHail = s.freed := enterHail_refused fun h => nomatch hin.2.symm.trans h.1
  obtain ⟨hlink, -, -, hrx⟩ := settleWith_lane s.freed true
  rw [hhail, chooseFrame_sink (s := s.freed) true rfl hin] at hlink hrx
  exact ⟨hlink, hrx⟩

theorem frameEnd_same (s : State) : SameButSettled s (s.freed.settleWith true) :=
  (freed_same s).trans (settleWith_same _ true)

/-- Settles O38: the lines of R147 in their order, on the freed lane. -/
theorem frameEndOnASinkFollowsTheOrder : Obligations.FrameEndOnASinkFollowsTheOrder := by
  intro s f h _ hin hl sends
  have hsends {t : State} (ht : s.freed.sinkFrame = t) {lane : Option Frame} (hlane : t.link = { s.link with lane := lane }) :
      sends lane t.rx := by
    obtain ⟨hlink, hrx⟩ := frameEnd_sink hin
    rw [ht] at hlink hrx
    exact ⟨_, exec_frameEnd_busy h (by rw [hl]; exact nofun), frameEnd_same s, hlink.trans hlane, hrx⟩
  exact ⟨fun r rest hr => hsends (sinkFrame_report hr) rfl,
    fun hr => ⟨fun reason hn => hsends (sinkFrame_nak hr hn) rfl,
      fun hn => ⟨fun ha => hsends (sinkFrame_ack hr hn ha) rfl,
        fun ha => ⟨fun ho => hsends (sinkFrame_reply hr hn ha ho) rfl,
          fun ho => hsends (sinkFrame_eq_self hr hn ha ho) rfl⟩⟩⟩⟩

/-! ### In HAIL -/

/-- In HAIL the next frame is an owed HELLO (R103). -/
theorem frameEnd_hail {s : State} (hh : s.link.state = .hail) :
    (s.freed.settleWith true).link = (s.freed.chooseFrame true).link := by
  have hhail : s.freed.enterHail = s.freed := enterHail_refused fun h => nomatch hh.symm.trans h.1
  have hlink := (settleWith_lane s.freed true).1
  rwa [hhail] at hlink

/-- In HAIL no frame follows while no HELLO is owed (R103). -/
theorem chooseFrame_unowed {s : State} (hl : s.link.lane = none) (hh : s.link.state = .hail) (hdue : s.link.helloDue = false) :
    s.chooseFrame true = s := by
  have howed : s.helloOwed = false := by rw [State.helloOwed, hdue]; rfl
  rcases sender_cases s with hin | hin | ⟨hr, -⟩ | ⟨hr, -⟩ | hq
  · exact nomatch hh.symm.trans hin.2
  · exact nomatch hh.symm.trans hin.2
  · rw [chooseFrame_hailSource true hl hr hh, hello_unsent howed]
  · rw [chooseFrame_hailSink true hl hr hh, hello_unsent howed]
  · exact chooseFrame_quiet true hq

theorem exec_helloRepeat {s : State} (h : Ready s) : exec .helloRepeat s = .next s.repeatHello :=
  congrArg Host.Outcome.next (take_ready _ h)

/-- The frame that follows in HAIL, by the role and the HELLO that is owed. -/
theorem frameEnd_hello {s : State} (hh : s.link.state = .hail) :
    (s.link.helloDue = false → (s.freed.settleWith true).link = { s.link with lane := none }) ∧
      (s.role = .source → s.link.helloDue = true →
        (s.freed.settleWith true).link =
          { s.link with
            lane := some (.hello (.source s.link.epoch s.journal.nextSeq)), helloDue := false
            lastHello := some s.time }) ∧
      (s.role = .sink → s.link.helloDue = true →
        (s.freed.settleWith true).link =
          if s.rx.applyQueue.length ≤ 16 then
            { s.link with lane := some (.hello (.sink s.link.epoch)), helloDue := false, lastHello := some s.time }
          else { s.link with lane := none }) := by
  rw [frameEnd_hail hh]
  refine ⟨fun hdue => ?_, fun hr hdue => ?_, fun hr hdue => ?_⟩
  · rw [chooseFrame_unowed (s := s.freed) rfl hh hdue]
    rfl
  · have howed : s.freed.helloOwed = true := (helloOwed_source (s := s.freed) hr).trans hdue
    rw [chooseFrame_hailSource (s := s.freed) true rfl hr hh, hello_sent howed]
    rfl
  · have howed : s.freed.helloOwed = decide (s.rx.applyQueue.length ≤ 16) := by
      rw [helloOwed_sink (s := s.freed) hr, show s.freed.link.helloDue = true from hdue]
      rfl
    rw [chooseFrame_hailSink (s := s.freed) true rfl hr hh]
    by_cases hroom : s.rx.applyQueue.length ≤ 16
    · rw [hello_sent (howed.trans (decide_eq_true hroom)), if_pos hroom]
      rfl
    · rw [hello_unsent (howed.trans (decide_eq_false hroom)), if_neg hroom]
      rfl

/-- Settles O39: the entry by its conditions, the HELLO by the frame that follows, and its repetition by the time. -/
theorem hailIsEnteredAndSendsHello : Obligations.HailIsEnteredAndSendsHello := by
  refine ⟨⟨fun s => ⟨enterHail_taken, enterHail_refused⟩, by decide, by decide, fun k _ hk => nextEpoch_succ hk⟩,
    fun s h hh => ⟨fun _ hl => ?_, fun hdue => ⟨fun start hstart hold => ?_, fun hyoung => ?_⟩⟩⟩
  · exact ⟨_, exec_frameEnd_busy h hl, frameEnd_same s, frameEnd_hello hh⟩
  · rw [exec_helloRepeat h, State.repeatHello, if_pos ((helloRepeatDue_iff s).2 ⟨hh, hdue, start, hstart, hold⟩)]
  · rw [exec_helloRepeat h, State.repeatHello, if_neg]
    intro hrepeat
    obtain ⟨-, -, start, hstart, hold⟩ := (helloRepeatDue_iff s).1 hrepeat
    exact absurd (hyoung start hstart) (Nat.not_lt.2 hold)

end Sys2Proof.Machine
end

section
/-! The loopback test: LINK_TEST, and each frame that returns. -/

namespace Sys2Proof.Machine

/-! ### LINK_TEST -/

theorem exec_linkTest {s : State} (echo : Byte) (n : BitVec 16) (h : Ready s) :
    exec (.linkTest echo (beBytes 2 n.toNat)) s = .next (s.linkTest echo n.toNat) := by
  have harg : argNat (beBytes 2 n.toNat) 0 2 = n.toNat := by
    have hhead := argNat_head 2 n.toNat [] n.isLt
    rwa [List.append_nil] at hhead
  refine congrArg Host.Outcome.next ((takeCommand_taken echo 18 _ _ h (beBytes_length ..)).trans ?_)
  rw [harg]

theorem linkTest_value (s : State) (echo : Byte) : s.linkTest echo 0 = s.refuse echo 18 .value := rfl

theorem linkTest_checked (s : State) (echo : Byte) {n : BitVec 16} (hn : n ≠ 0) :
    s.linkTest echo n.toNat =
      if s.role ≠ .isolated then s.refuse echo 18 .role
      else if s.link.test.running then s.reply echo 18 .busy .noReason []
      else (s.withLink { s.link with test := TestRecord.start n }).reply echo 18 .accepted .noReason [] := by
  have hpos : n.toNat ≠ 0 := fun h => hn (BitVec.eq_of_toNat_eq h)
  have hround : BitVec.ofNat 16 n.toNat = n := BitVec.ofNat_toNat ..
  rw [State.linkTest, if_neg hpos, hround]

/-! ### TEST_FRAME_RETURN -/

theorem testFrameGood_iff (k : BitVec 16) (bytes : List Byte) :
    testFrameGood k bytes = true ↔ Frame.ofBytes bytes = some (.test k (testPayload k)) := by
  unfold testFrameGood
  split
  · rename_i p d h
    simp [h]
  · rename_i h
    exact ⟨nofun, fun hgood => absurd hgood (h _ _)⟩

/-- The frame of pattern number `k` has returned and is counted: the test completes with it, or the next one is sent
(R114). -/
def State.testReturned (s : State) (k : BitVec 16) (good : Bool) : State :=
  if k + 1 = s.link.test.requested then
    (s.withLink
        { s.link with
          test := { s.link.test.countReturn good with running := false, outcome := .complete, inLoop := none } }).raise
      .testDone
  else s.withLink { s.link with test := (s.link.test.countReturn good).sendNext }

theorem exec_testFrameReturn_none {s : State} (bytes : List Byte) (h : Ready s) (hk : s.link.test.inLoop = none) :
    exec (.testFrameReturn bytes) s = .next s := by
  refine congrArg Host.Outcome.next ((take_ready _ h).trans ?_)
  rw [hk]

theorem exec_testFrameReturn {s : State} {k : BitVec 16} (bytes : List Byte) (h : Ready s)
    (hk : s.link.test.inLoop = some k) :
    exec (.testFrameReturn bytes) s = .next (s.testReturned k (testFrameGood k bytes)) := by
  obtain ⟨-, hrequested, -⟩ := countReturn_fields s.link.test (testFrameGood k bytes)
  refine congrArg Host.Outcome.next ((take_ready _ h).trans ?_)
  rw [hk, State.testReturned, ← hrequested]

/-- The counts after a return are those of the return, whether or not the next frame is sent. -/
theorem testReturned_counts (s : State) (k : BitVec 16) (good : Bool) :
    (s.testReturned k good).link.test.good = (s.link.test.countReturn good).good ∧
      (s.testReturned k good).link.test.damaged = (s.link.test.countReturn good).damaged := by
  have hnext (t : TestRecord) : t.sendNext.good = t.good ∧ t.sendNext.damaged = t.damaged := by
    unfold TestRecord.sendNext
    split <;> exact ⟨rfl, rfl⟩
  unfold State.testReturned
  split
  · exact ⟨rfl, rfl⟩
  · exact hnext _

/-- The frame of pattern number N - 1 completes the test (R114). -/
theorem testReturned_last {s : State} {k : BitVec 16} (good : Bool) (h : k + 1 = s.link.test.requested) :
    s.testReturned k good =
      (s.withLink
          { s.link with
            test :=
              { (s.testReturned k good).link.test with
                running := false, outcome := .complete, inLoop := none, sent := s.link.test.sent
                requested := s.link.test.requested } }).raise
        .testDone := by
  rw [State.testReturned, if_pos h]
  cases good <;> rfl

/-- After every other frame the next one is sent (R114). -/
theorem testReturned_next {s : State} {k : BitVec 16} (good : Bool) (h : k + 1 ≠ s.link.test.requested)
    (hsent : s.link.test.sent = k + 1) :
    s.testReturned k good =
      s.withLink
        { s.link with
          test :=
            { s.link.test with
              good := (s.testReturned k good).link.test.good, damaged := (s.testReturned k good).link.test.damaged
              sent := k + 2, inLoop := some (k + 1) } } := by
  obtain ⟨-, hrequested, hkept, -⟩ := countReturn_fields s.link.test good
  have hmore : (s.link.test.countReturn good).sent ≠ (s.link.test.countReturn good).requested := by
    rwa [hkept, hsent, hrequested]
  have htwo : k + 1 + 1 = k + 2 := BitVec.add_assoc k 1 1
  rw [State.testReturned, if_neg h, TestRecord.sendNext, if_neg hmore, hkept, hsent, htwo]
  cases good <;> rfl

/-- Settles O24: LINK_TEST by its checks, a return by its count and by whether it is the last. -/
theorem loopbackTestCountsEveryFrame : Obligations.LoopbackTestCountsEveryFrame := by
  refine ⟨fun echo n s h => ?_, fun bytes s h => ⟨exec_testFrameReturn_none bytes h, fun k hk => ?_⟩⟩
  · simp only
    rw [exec_linkTest echo n h]
    refine ⟨fun hn => ?_, fun hn hr => ?_, fun hn hr hrun => ?_, fun hn hr hrun => ?_⟩
    · subst hn
      rw [show (0 : BitVec 16).toNat = 0 from rfl, linkTest_value]
      rfl
    · rw [linkTest_checked s echo hn, if_pos hr]
      rfl
    · rw [linkTest_checked s echo hn, if_neg (not_not.2 hr), if_pos hrun]
    · rw [linkTest_checked s echo hn, if_neg (not_not.2 hr), if_neg (by simp [hrun]), testStart_eq hn]
  · obtain ⟨hgood, hdamaged⟩ := testReturned_counts s k (testFrameGood k bytes)
    refine ⟨_, exec_testFrameReturn bytes h hk, fun hg => ?_, fun hg => ?_, testReturned_last _, testReturned_next _⟩
    · rw [hgood, hdamaged, (testFrameGood_iff k bytes).2 hg]
      exact ⟨rfl, rfl⟩
    · rw [hgood, hdamaged, eq_false_of_ne_true (mt (testFrameGood_iff k bytes).1 hg)]
      exact ⟨rfl, rfl⟩

end Sys2Proof.Machine
end

section
/-! The check value of a frame, the kind codes, and what a frame is damaged for. -/

namespace Sys2Proof

/-- The bytes of the number that the bytes make are those bytes. -/
theorem beBytes_beNat (l : List Byte) : beBytes l.length (beNat l) = l := by
  induction l using List.reverseRecOn with
  | nil => rfl
  | append_singleton l b ih =>
    have hb := b.isLt
    have hdiv : (beNat l * 256 + b.toNat) / 256 = beNat l := by omega
    have hlow : BitVec.ofNat 8 (beNat l * 256 + b.toNat) = b := by
      refine BitVec.eq_of_toNat_eq ?_
      rw [BitVec.toNat_ofNat]
      omega
    rw [List.length_append, List.length_singleton, beNat_append_one, beBytes, hdiv, hlow, ih]

namespace Machine

/-! ### The check value -/

theorem crcBits_eq (bits : List Bool) (r : BitVec 32) : crcBits bits r = bits.foldl crcBit r := by
  induction bits generalizing r with
  | nil => rfl
  | cons b bits ih => rw [crcBits, evalNat_eq, BitVec.ofNat_toNat, BitVec.setWidth_eq, ih, List.foldl_cons]

theorem crcBytes_eq (l : List Byte) (r : BitVec 32) : crcBytes l r = l.foldl (fun r b => crcBits (bitsOf b) r) r := by
  induction l generalizing r with
  | nil => rfl
  | cons b l ih => rw [crcBytes, evalNat_eq, BitVec.ofNat_toNat, BitVec.setWidth_eq, ih, List.foldl_cons]

theorem crc_append (l : List Byte) (b : Byte) : crc (l ++ [b]) = ~~~crcBits (bitsOf b) (~~~crc l) := by
  rw [crc, crc, BitVec.not_not, crcBytes_eq, crcBytes_eq, List.foldl_append]
  rfl

/-- One step of the division by the generator polynomial (R98). -/
def crcShift (r : BitVec 32) : BitVec 32 := if r.msb = true then (r <<< 1) ^^^ crcPoly else r <<< 1

/-- Bits added to the register before a step enter it as its next bit and as what follows. -/
theorem crcShift_xor (r x : BitVec 32) : crcShift (r ^^^ x) = crcBit r x.msb ^^^ x <<< 1 := by
  unfold crcShift crcBit
  rw [BitVec.msb_xor, BitVec.shiftLeft_xor_distrib]
  cases r.msb <;> cases x.msb <;> simp <;> ac_rfl

/-- After `n` steps the first `n` bits have entered, and the others stand where they were added, shifted. -/
theorem crcShift_steps (n : Nat) (r x : BitVec 32) :
    (List.range n).foldl (fun r _ => crcShift r) (r ^^^ x) =
      ((List.range n).map fun i => (x <<< i).msb).foldl crcBit r ^^^ x <<< n := by
  induction n with
  | zero => simp
  | succ n ih =>
    rw [List.range_succ, List.foldl_append, ih, List.map_append, List.foldl_append]
    simp only [List.foldl_cons, List.foldl_nil, List.map_cons, List.map_nil, crcShift_xor, BitVec.shiftLeft_add]

/-- A byte at the top of the register enters bit by bit, most significant first (R98). -/
theorem crcBits_byte (b : Byte) (r : BitVec 32) :
    (List.range 8).foldl (fun r _ => crcShift r) (r ^^^ b.setWidth 32 <<< 24) = crcBits (bitsOf b) r := by
  have hbits : ((List.range 8).map fun i => (b.setWidth 32 <<< 24 <<< i).msb) = bitsOf b := by
    simp [List.range_succ, bitsOf, BitVec.msb_eq_getLsbD_last]
  have hgone : b.setWidth 32 <<< 24 <<< 8 = 0 := by
    refine BitVec.eq_of_getLsbD_eq fun i hi => ?_
    rw [← BitVec.shiftLeft_add, BitVec.getLsbD_shiftLeft]
    simp [hi]
  rw [crcShift_steps, hbits, hgone, crcBits_eq]
  exact BitVec.xor_zero

/-! ### The kind codes -/

theorem ofCode_eq_some (n : Nat) (k : FrameKind) : FrameKind.ofCode n = some k ↔ n = k.code := by
  constructor
  · unfold FrameKind.ofCode
    split <;> intro h <;> cases h <;> rfl
  · rintro rfl
    cases k <;> rfl

theorem ofCode_bit_changed (k : FrameKind) : ∀ i < 5, FrameKind.ofCode (k.code ^^^ 1 <<< i) = none := by
  cases k <;> decide

/-! ### What a frame is damaged for -/

theorem ofBytes_noKind {h : Byte} (l : List Byte) (hk : FrameKind.ofCode (h.toNat / 8) = none) :
    Frame.ofBytes (h :: l) = none := by
  rw [Frame.ofBytes, hk]

theorem ofBytes_kind {h : Byte} {k : FrameKind} (l : List Byte) (hk : FrameKind.ofCode (h.toNat / 8) = some k) :
    Frame.ofBytes (h :: l) =
      if (h :: l).length = k.length (h.getLsbD 0) ∧ crcGood (h :: l) = true then
        some (k.fields (h.getLsbD 0) (h :: l))
      else none := by
  rw [Frame.ofBytes, hk]
  simp only [Bool.and_eq_true, decide_eq_true_eq]

/-- The last four bytes are those of the CRC over the bytes before them (R99). -/
theorem crcGood_iff {l : List Byte} (hl : 4 ≤ l.length) :
    crcGood l = true ↔ l.drop (l.length - 4) = beBytes 4 (crc (l.take (l.length - 4))).toNat := by
  have hfour : (l.drop (l.length - 4)).length = 4 := by rw [List.length_drop]; omega
  have hlt : beNat (l.drop (l.length - 4)) < 2 ^ 32 := by
    have h := beNat_lt (l.drop (l.length - 4))
    rwa [hfour] at h
  rw [crcGood, beq_iff_eq]
  constructor
  · intro h
    have hround := beBytes_beNat (l.drop (l.length - 4))
    rw [hfour] at hround
    rw [h, BitVec.toNat_ofNat, Nat.mod_eq_of_lt hlt, hround]
  · intro h
    rw [h, beNat_beBytes 4 _ (crc _).isLt, BitVec.ofNat_toNat, BitVec.setWidth_eq]

theorem length_ge (k : FrameKind) (q : Bool) : 4 ≤ k.length q := by
  cases k <;> cases q <;> decide

theorem frameDamaged_iff (h : Byte) (l : List Byte) :
    frameDamaged (h :: l) = true ↔
      FrameKind.ofCode (h.toNat / 8) = none ∨
        ∃ k, FrameKind.ofCode (h.toNat / 8) = some k ∧
          ((h :: l).length ≠ k.length (h.getLsbD 0) ∨
            (h :: l).drop ((h :: l).length - 4) ≠ beBytes 4 (crc ((h :: l).take ((h :: l).length - 4))).toNat) := by
  rw [frameDamaged, Option.isNone_iff_eq_none]
  cases hk : FrameKind.ofCode (h.toNat / 8) with
  | none => simp [ofBytes_noKind l hk]
  | some k =>
    rw [ofBytes_kind l hk]
    by_cases hl : (h :: l).length = k.length (h.getLsbD 0)
    · have hcrc := crcGood_iff (hl ▸ length_ge k _)
      simp [-List.length_cons, hl, hcrc]
    · rw [if_neg fun h => hl h.1]
      exact iff_of_true rfl (.inr ⟨k, rfl, .inl hl⟩)

/-- Settles O4: the CRC bit by bit, the codes by the table, and the check of R99 by its three parts. -/
theorem framesAreDamagedByCodeLengthOrCrc : Obligations.FramesAreDamagedByCodeLengthOrCrc := by
  refine ⟨⟨rfl, fun l b => ?_⟩, ⟨rfl, rfl, rfl, rfl, rfl, rfl, rfl, rfl, rfl, ofCode_eq_some, by decide,
    ofCode_bit_changed, fun _ l => ofBytes_noKind l⟩, rfl, fun h l => ?_⟩
  · rw [crc_append, ← crcBits_byte]
    rfl
  · refine (frameDamaged_iff h l).trans (or_congr_right (exists_congr fun k => and_congr_right fun _ => ?_))
    cases k <;> rfl

end Machine

end Sys2Proof
end

section
/-! The layout of the frames, and reading it back. -/

namespace Sys2Proof

/-- Byte `i` of `n` is the number divided by the weight of its place (R98). -/
theorem beBytes_eq_map (n v : Nat) :
    beBytes n v = (List.range n).map fun i => BitVec.ofNat 8 (v / 256 ^ (n - 1 - i)) := by
  induction n generalizing v with
  | zero => rfl
  | succ n ih =>
    rw [beBytes, ih, List.range_succ, List.map_append]
    congr 1
    · refine List.map_congr_left fun i hi => ?_
      have hexp : n + 1 - 1 - i = n - 1 - i + 1 := by
        have := List.mem_range.1 hi
        omega
      rw [hexp, Nat.div_div_eq_div_mul, Nat.pow_succ']
    · simp

namespace Machine

/-! ### Fields in their places -/

theorem toNat_append_add {m n : Nat} (x : BitVec m) (y : BitVec n) : (x ++ y).toNat = x.toNat * 2 ^ n + y.toNat := by
  rw [BitVec.toNat_append, ← Nat.shiftLeft_add_eq_or_of_lt y.isLt, Nat.shiftLeft_eq]

theorem fieldAt_bytes {l pre post : List Byte} {n v at_ : Nat} (hl : l = pre ++ (beBytes n v ++ post))
    (hp : pre.length = at_) (hv : v < 256 ^ n) : fieldAt l at_ n = v := by
  subst hl hp
  rw [fieldAt, List.drop_left, List.take_left' (beBytes_length n v), beNat_beBytes n v hv]

theorem fieldAt_byte {l pre post : List Byte} {b : Byte} {at_ : Nat} (hl : l = pre ++ b :: post)
    (hp : pre.length = at_) : fieldAt l at_ 1 = b.toNat := by
  subst hl hp
  rw [fieldAt, List.drop_left, List.take_succ_cons, List.take_zero, beNat, List.foldl_cons, List.foldl_nil, Nat.zero_mul,
    Nat.zero_add]

theorem dataAt_bytes {l pre post : List Byte} {d : LineData} {at_ : Nat} (hl : l = pre ++ (d.toList ++ post))
    (hp : pre.length = at_) : dataAt l at_ = d := by
  subst hl hp
  refine Vector.ext fun i hi => ?_
  have hlen : i < d.toList.length := by simpa using hi
  rw [dataAt, Vector.getElem_ofFn, List.getD_append_right _ _ _ _ (Nat.le_add_right ..), Nat.add_sub_cancel_left,
    List.getD_append _ _ _ _ hlen, List.getD_eq_getElem _ _ hlen]
  rfl

/-! ### The pieces of the layout -/

/-- A header byte: the kind code, the two bits that are not examined, and the qualifier (R98). -/
def spareHeader (code : BitVec 5) (spare : BitVec 2) (qualifier : Bool) : Byte :=
  code ++ spare ++ BitVec.ofBool qualifier

theorem spareHeader_code (code : BitVec 5) (spare : BitVec 2) (q : Bool) :
    (spareHeader code spare q).toNat / 8 = code.toNat := by
  have hs := spare.isLt
  have hq := (BitVec.ofBool q).isLt
  rw [spareHeader, toNat_append_add, toNat_append_add]
  omega

theorem spareHeader_qualifier (code : BitVec 5) (spare : BitVec 2) (q : Bool) :
    (spareHeader code spare q).getLsbD 0 = q := by
  rw [spareHeader, BitVec.getLsbD_append]
  simp

/-- The header that the unit sends has 0 in the two bits that are not examined (R98). -/
theorem headerByte_eq {k : FrameKind} {code : BitVec 5} (hk : code.toNat = k.code) (q : Bool) :
    headerByte k q = spareHeader code 0 q := by
  refine BitVec.eq_of_toNat_eq ?_
  have hc := code.isLt
  rw [headerByte, spareHeader, toNat_append_add, toNat_append_add, BitVec.toNat_ofNat, ← hk]
  cases q <;> simp <;> omega

/-- A target line as it is sent: its number, and six bits that are not examined (R98). -/
def lineBytes (target : Line) (low : BitVec 6) : List Byte := beBytes 5 (target ++ low).toNat

theorem lineBytes_address (target : Line) : beBytes 5 target.address.toNat = lineBytes target 0 := by
  have ht := target.isLt
  rw [lineBytes, toNat_append_add, Line.address, BitVec.toNat_ofNat, Nat.mod_eq_of_lt (by omega)]
  rfl

theorem lineAt_bytes {l pre post : List Byte} {target : Line} {low : BitVec 6} {at_ : Nat}
    (hl : l = pre ++ (lineBytes target low ++ post)) (hp : pre.length = at_) : lineAt l at_ = target := by
  have hlow := low.isLt
  have hfield := fieldAt_bytes (n := 5) hl hp (target ++ low).isLt
  have hdiv : (target.toNat * 2 ^ 6 + low.toNat) / 64 = target.toNat := by omega
  rw [lineAt, hfield, toNat_append_add, hdiv, BitVec.ofNat_toNat, BitVec.setWidth_eq]

/-- A window as it is sent: four bits that are not examined, and the index (R98). -/
def windowByte (window : WinIdx) (upper : BitVec 4) : Byte := upper ++ BitVec.ofNat 4 window.val

theorem windowByte_toNat (window : WinIdx) (upper : BitVec 4) :
    (windowByte window upper).toNat = upper.toNat * 16 + window.val := by
  have hindex : window.val % 2 ^ 4 = window.val := Nat.mod_eq_of_lt window.isLt
  rw [windowByte, toNat_append_add, BitVec.toNat_ofNat, hindex]
  rfl

theorem windowByte_index (window : WinIdx) : beBytes 1 window.val = [windowByte window 0] := by
  refine congrArg (fun b : Byte => [b]) (BitVec.eq_of_toNat_eq ?_)
  rw [windowByte_toNat, BitVec.toNat_ofNat]
  have := window.isLt
  simp
  omega

theorem windowByte_window (window : WinIdx) (upper : BitVec 4) :
    Fin.ofNat 16 (windowByte window upper).toNat = window := by
  refine Fin.ext ?_
  have := window.isLt
  rw [windowByte_toNat, Fin.val_ofNat]
  omega

/-! ### The mask -/

/-- A mask as it is sent: byte position 0 is the most significant bit of the first byte (R98). -/
def maskBytes (m : Mask) : List Byte :=
  (List.range 8).map fun k => BitVec.ofFnLE fun j : Fin 8 => m.getLsbD (8 * k + (7 - j.val))

theorem maskToWire_bit (m : Mask) {i : Nat} (hi : i < 64) : (maskToWire m).getLsbD i = m.getLsbD (63 - i) :=
  (BitVec.getLsbD_ofFnLE ..).trans (dif_pos hi)

theorem maskToWire_twice (m : Mask) : maskToWire (maskToWire m) = m := by
  refine BitVec.eq_of_getLsbD_eq fun i hi => ?_
  have hback : 63 - (63 - i) = i := by omega
  rw [maskToWire_bit _ hi, maskToWire_bit _ (by omega), hback]

theorem maskBytes_wire (m : Mask) : beBytes 8 (maskToWire m).toNat = maskBytes m := by
  rw [beBytes_eq_map]
  refine List.map_congr_left fun k hk => BitVec.eq_of_getLsbD_eq fun j hj => ?_
  have hk := List.mem_range.1 hk
  have hpow : (256 : Nat) ^ (8 - 1 - k) = 2 ^ (8 * (8 - 1 - k)) := by rw [Nat.pow_mul]
  have hplace : 63 - (8 * (8 - 1 - k) + j) = 8 * k + (7 - j) := by omega
  rw [BitVec.getLsbD_ofFnLE, dif_pos hj, BitVec.getLsbD_ofNat, hpow, Nat.testBit_div_two_pow, BitVec.testBit_toNat,
    maskToWire_bit _ (by omega), Nat.add_comm, hplace]
  simp [hj]

end Machine

end Sys2Proof
end

section
/-! Every frame, laid out and read back. -/

namespace Sys2Proof.Machine

/-! ### The layout -/

/-- The code of the frame that carries an entry of the kind (R97). -/
def dataCode : EntryKind → BitVec 5
  | .update => 0b00101
  | .sweep => 0b00110
  | .mark => 0b01001

/-- The bytes of a frame before its CRC, with any values in the bits that the receiver does not examine: the two bits
beside the kind code, the upper bits of the window, the lower bits of the target line, and the qualifier of PROBE, ACK and
TEST (R98). -/
def Frame.spareBody (f : Frame) (spare : BitVec 2) (upper : BitVec 4) (low : BitVec 6) (unused : Bool) : List Byte :=
  match f with
  | .hello (.source e b) => [spareHeader 0b00011 spare false, e] ++ beBytes 2 b.toNat
  | .hello (.sink e) => [spareHeader 0b00011 spare true, e]
  | .data d =>
    [spareHeader (dataCode d.kind) spare d.poison, d.epoch] ++ beBytes 2 d.seq.toNat ++ [windowByte d.window upper] ++
      lineBytes d.target low ++ (if d.kind = .sweep then [] else maskBytes d.mask) ++ d.data.toList
  | .probe e => [spareHeader 0b01010 spare unused, e]
  | .ack e q n => [spareHeader 0b01100 spare unused, e] ++ beBytes 2 q.toNat ++ beBytes 2 n.toNat
  | .nak e q r => [spareHeader 0b10001 spare (r = .damaged), e] ++ beBytes 2 q.toNat
  | .report r =>
    [spareHeader 0b10010 spare (r.kind = .apply), r.epoch] ++ beBytes 2 r.seq.toNat ++ lineBytes r.target low
  | .test p d => [spareHeader 0b10100 spare unused] ++ beBytes 2 p.toNat ++ d.toList

theorem dataCode_code (k : EntryKind) : (dataCode k).toNat = (frameKindOf k).code := by cases k <;> rfl

/-- The bytes that the unit sends have 0 in those bits (R98). -/
theorem body_eq_spareBody (f : Frame) : f.body = f.spareBody 0 0 0 false := by
  rcases f with (⟨e, b⟩ | e) | d | e | ⟨e, q, n⟩ | ⟨e, q, r⟩ | r | ⟨p, d⟩
  case data =>
    rw [Frame.body, headerByte_eq (dataCode_code d.kind), windowByte_index, lineBytes_address, maskBytes_wire]
    rfl
  case report =>
    rw [Frame.body, headerByte_eq (code := 0b10010) rfl, lineBytes_address]
    rfl
  case hello.source => rw [Frame.body, headerByte_eq (code := 0b00011) rfl]; rfl
  case hello.sink => rw [Frame.body, headerByte_eq (code := 0b00011) rfl]; rfl
  case probe => rw [Frame.body, headerByte_eq (code := 0b01010) rfl]; rfl
  case ack => rw [Frame.body, headerByte_eq (code := 0b01100) rfl]; rfl
  case nak => rw [Frame.body, headerByte_eq (code := 0b10001) rfl]; rfl
  case test => rw [Frame.body, headerByte_eq (code := 0b10100) rfl]; rfl

/-! ### Reading -/

/-- The body of a frame with its CRC (R98). -/
def framed (body : List Byte) : List Byte := body ++ beBytes 4 (crc body).toNat

theorem framed_crcGood (body : List Byte) : crcGood (framed body) = true := by
  have hlen : (framed body).length - 4 = body.length := by simp [framed]
  rw [crcGood_iff (by simp [framed]), hlen, framed, List.drop_left, List.take_left]

/-- A frame with a legal header, the length of its kind and its CRC is good (R99). -/
theorem ofBytes_framed {k : FrameKind} {code : BitVec 5} {spare : BitVec 2} {q : Bool} {body : List Byte}
    (hcode : code.toNat = k.code) (hbody : body = spareHeader code spare q :: body.tail)
    (hlen : body.length + 4 = k.length q) : Frame.ofBytes (framed body) = some (k.fields q (framed body)) := by
  have hkind : FrameKind.ofCode ((spareHeader code spare q).toNat / 8) = some k := by
    rw [ofCode_eq_some, spareHeader_code, hcode]
  have hgood := framed_crcGood body
  have hlength : (framed body).length = k.length q := by simp [framed, ← hlen]
  rw [framed, hbody, List.cons_append] at hgood hlength ⊢
  rw [ofBytes_kind _ hkind, spareHeader_qualifier, if_pos ⟨hlength, hgood⟩]

/-- The epoch is the second byte of every frame but TEST (R98). -/
theorem epochAt (h : Byte) (e : Epoch) (rest : List Byte) : BitVec.ofNat 8 (fieldAt (h :: e :: rest) 1 1) = e := by
  have hbyte : fieldAt (h :: e :: rest) 1 1 = e.toNat := fieldAt_byte (pre := [h]) rfl rfl
  rw [hbyte, BitVec.ofNat_toNat, BitVec.setWidth_eq]

/-- A sequence number, a count or a pattern number of two bytes. -/
theorem seqAt {l pre post : List Byte} {q : BitVec 16} {at_ : Nat} (hl : l = pre ++ (beBytes 2 q.toNat ++ post))
    (hp : pre.length = at_) : BitVec.ofNat 16 (fieldAt l at_ 2) = q := by
  rw [fieldAt_bytes hl hp q.isLt, BitVec.ofNat_toNat, BitVec.setWidth_eq]

/-- The bytes of a data frame before its mask or, in a SWEEP frame, its data (R98). -/
def dataFront (d : DataFrame) (spare : BitVec 2) (upper : BitVec 4) (low : BitVec 6) : List Byte :=
  [spareHeader (dataCode d.kind) spare d.poison, d.epoch] ++ (beBytes 2 d.seq.toNat ++ ([windowByte d.window upper] ++
    lineBytes d.target low))

theorem dataFront_length (d : DataFrame) (spare : BitVec 2) (upper : BitVec 4) (low : BitVec 6) :
    (dataFront d spare upper low).length = 10 := by
  simp [dataFront, lineBytes]

/-- The fields that every data frame has in the same places (R98). -/
theorem dataFrameAt_front {d : DataFrame} {spare : BitVec 2} {upper : BitVec 4} {low : BitVec 6} {l rest : List Byte}
    {at_ : Nat} (hl : l = dataFront d spare upper low ++ rest) (hdata : dataAt l at_ = d.data) :
    dataFrameAt d.kind d.poison d.mask at_ l = d := by
  have hepoch : BitVec.ofNat 8 (fieldAt l 1 1) = d.epoch := by rw [hl]; exact epochAt _ _ _
  simp only [dataFront, List.append_assoc] at hl
  have hseq : BitVec.ofNat 16 (fieldAt l 2 2) = d.seq := seqAt hl rfl
  have hwindow : Fin.ofNat 16 (fieldAt l 4 1) = d.window := by
    rw [fieldAt_byte (pre := [spareHeader (dataCode d.kind) spare d.poison, d.epoch] ++ beBytes 2 d.seq.toNat)
      (post := lineBytes d.target low ++ rest) (by rw [hl, List.append_assoc]; rfl) (by simp), windowByte_window]
  have hline : lineAt l 5 = d.target :=
    lineAt_bytes (low := low) (post := rest)
      (pre := [spareHeader (dataCode d.kind) spare d.poison, d.epoch] ++
        (beBytes 2 d.seq.toNat ++ [windowByte d.window upper]))
      (by rw [hl]; simp only [List.append_assoc]) (by simp)
  rw [dataFrameAt, hepoch, hseq, hwindow, hline, hdata]

theorem fields_masked {d : DataFrame} (hk : d.kind ≠ .sweep) (l : List Byte) :
    (frameKindOf d.kind).fields d.poison l =
      .data (dataFrameAt d.kind d.poison (maskToWire (BitVec.ofNat 64 (fieldAt l 10 8))) 18 l) := by
  cases h : d.kind with
  | sweep => exact absurd h hk
  | update | mark => rfl

theorem maskBytes_length (m : Mask) : (maskBytes m).length = 8 := by simp [maskBytes]

/-- UPDATE and MARK frames carry a mask (R98). -/
theorem ofBytes_masked {d : DataFrame} (hk : d.kind ≠ .sweep) (spare : BitVec 2) (upper : BitVec 4) (low : BitVec 6)
    (unused : Bool) : Frame.ofBytes (framed ((Frame.data d).spareBody spare upper low unused)) = some (.data d) := by
  set body := (Frame.data d).spareBody spare upper low unused with hdef
  have hbody : body = dataFront d spare upper low ++ (maskBytes d.mask ++ d.data.toList) := by
    simp [hdef, Frame.spareBody, dataFront, hk]
  have hfront := dataFront_length d spare upper low
  have hlength : body.length + 4 = (frameKindOf d.kind).length d.poison := by
    rw [hbody, List.length_append, List.length_append, hfront, maskBytes_length, Vector.length_toList]
    cases h : d.kind with
    | sweep => exact absurd h hk
    | update | mark => rfl
  have hmask : maskToWire (BitVec.ofNat 64 (fieldAt (framed body) 10 8)) = d.mask := by
    have hfield : fieldAt (framed body) 10 8 = (maskToWire d.mask).toNat :=
      fieldAt_bytes (pre := dataFront d spare upper low) (post := d.data.toList ++ beBytes 4 (crc body).toNat)
        (by rw [framed, maskBytes_wire, hbody]; simp only [List.append_assoc]) hfront (maskToWire d.mask).isLt
    rw [hfield, BitVec.ofNat_toNat, BitVec.setWidth_eq, maskToWire_twice]
  have hdata : dataAt (framed body) 18 = d.data :=
    dataAt_bytes (pre := dataFront d spare upper low ++ maskBytes d.mask) (post := beBytes 4 (crc body).toNat)
      (by rw [framed, hbody]; simp only [List.append_assoc]) (by rw [List.length_append, hfront, maskBytes_length])
  have hread : dataFrameAt d.kind d.poison d.mask 18 (framed body) = d :=
    dataFrameAt_front (spare := spare) (upper := upper) (low := low)
      (rest := maskBytes d.mask ++ (d.data.toList ++ beBytes 4 (crc body).toNat))
      (by rw [framed, hbody]; simp only [List.append_assoc]) hdata
  rw [ofBytes_framed (dataCode_code d.kind) rfl hlength, fields_masked hk, hmask, hread]

/-- A SWEEP frame carries no mask: all 64 bytes are meant (R98). -/
theorem ofBytes_sweep {d : DataFrame} (hk : d.kind = .sweep) (hmask : d.mask = fullMask) (spare : BitVec 2)
    (upper : BitVec 4) (low : BitVec 6) (unused : Bool) :
    Frame.ofBytes (framed ((Frame.data d).spareBody spare upper low unused)) = some (.data d) := by
  set body := (Frame.data d).spareBody spare upper low unused with hdef
  have hbody : body = dataFront d spare upper low ++ d.data.toList := by
    simp [hdef, Frame.spareBody, dataFront, hk]
  have hfront := dataFront_length d spare upper low
  have hlength : body.length + 4 = (frameKindOf d.kind).length d.poison := by
    rw [hbody, List.length_append, hfront, Vector.length_toList, hk]
    rfl
  have hdata : dataAt (framed body) 10 = d.data :=
    dataAt_bytes (pre := dataFront d spare upper low) (post := beBytes 4 (crc body).toNat)
      (by rw [framed, hbody]; simp only [List.append_assoc]) hfront
  have hread : dataFrameAt d.kind d.poison d.mask 10 (framed body) = d :=
    dataFrameAt_front (spare := spare) (upper := upper) (low := low)
      (rest := d.data.toList ++ beBytes 4 (crc body).toNat)
      (by rw [framed, hbody]; simp only [List.append_assoc]) hdata
  rw [hk, hmask] at hread
  rw [ofBytes_framed (dataCode_code d.kind) rfl hlength, hk]
  exact congrArg (fun x => some (Frame.data x)) hread

theorem ofBytes_helloSource (e : Epoch) (b : Seq) (spare : BitVec 2) (upper : BitVec 4) (low : BitVec 6) (unused : Bool) :
    Frame.ofBytes (framed ((Frame.hello (.source e b)).spareBody spare upper low unused)) =
      some (.hello (.source e b)) := by
  set body := (Frame.hello (.source e b)).spareBody spare upper low unused with hdef
  have hlength : body.length + 4 = FrameKind.hello.length false := by simp [hdef, Frame.spareBody, FrameKind.length]
  have hseq : BitVec.ofNat 16 (fieldAt (framed body) 2 2) = b :=
    seqAt (pre := [spareHeader 0b00011 spare false, e]) (post := beBytes 4 (crc body).toNat)
      (by rw [framed, hdef, Frame.spareBody, List.append_assoc]) rfl
  have hepoch : BitVec.ofNat 8 (fieldAt (framed body) 1 1) = e := epochAt _ _ _
  rw [ofBytes_framed (code := 0b00011) rfl rfl hlength, FrameKind.fields, hseq, hepoch]
  rfl

theorem ofBytes_helloSink (e : Epoch) (spare : BitVec 2) (upper : BitVec 4) (low : BitVec 6) (unused : Bool) :
    Frame.ofBytes (framed ((Frame.hello (.sink e)).spareBody spare upper low unused)) = some (.hello (.sink e)) := by
  have hepoch : BitVec.ofNat 8 (fieldAt (framed ((Frame.hello (.sink e)).spareBody spare upper low unused)) 1 1) = e :=
    epochAt _ _ _
  rw [ofBytes_framed (k := .hello) (code := 0b00011) (q := true) rfl rfl rfl, FrameKind.fields, hepoch]
  rfl

theorem ofBytes_probe (e : Epoch) (spare : BitVec 2) (upper : BitVec 4) (low : BitVec 6) (unused : Bool) :
    Frame.ofBytes (framed ((Frame.probe e).spareBody spare upper low unused)) = some (.probe e) := by
  have hepoch : BitVec.ofNat 8 (fieldAt (framed ((Frame.probe e).spareBody spare upper low unused)) 1 1) = e :=
    epochAt _ _ _
  rw [ofBytes_framed (k := .probe) (code := 0b01010) rfl rfl rfl, FrameKind.fields, hepoch]

theorem ofBytes_ack (e : Epoch) (q n : Seq) (spare : BitVec 2) (upper : BitVec 4) (low : BitVec 6) (unused : Bool) :
    Frame.ofBytes (framed ((Frame.ack e q n).spareBody spare upper low unused)) = some (.ack e q n) := by
  set body := (Frame.ack e q n).spareBody spare upper low unused with hdef
  have hlength : body.length + 4 = FrameKind.ack.length unused := by simp [hdef, Frame.spareBody, FrameKind.length]
  have happlied : BitVec.ofNat 16 (fieldAt (framed body) 2 2) = q :=
    seqAt (pre := [spareHeader 0b01100 spare unused, e]) (post := beBytes 2 n.toNat ++ beBytes 4 (crc body).toNat)
      (by rw [framed, hdef, Frame.spareBody]; simp only [List.append_assoc]) rfl
  have hfaults : BitVec.ofNat 16 (fieldAt (framed body) 4 2) = n :=
    seqAt (pre := [spareHeader 0b01100 spare unused, e] ++ beBytes 2 q.toNat) (post := beBytes 4 (crc body).toNat)
      (by rw [framed, hdef, Frame.spareBody, List.append_assoc]) (by simp)
  have hepoch : BitVec.ofNat 8 (fieldAt (framed body) 1 1) = e := epochAt _ _ _
  rw [ofBytes_framed (code := 0b01100) rfl rfl hlength, FrameKind.fields, happlied, hfaults, hepoch]

theorem ofBytes_nak (e : Epoch) (q : Seq) (r : NakReason) (spare : BitVec 2) (upper : BitVec 4) (low : BitVec 6)
    (unused : Bool) : Frame.ofBytes (framed ((Frame.nak e q r).spareBody spare upper low unused)) = some (.nak e q r) := by
  set body := (Frame.nak e q r).spareBody spare upper low unused with hdef
  have hlength : body.length + 4 = FrameKind.nak.length (r = .damaged) := by
    simp [hdef, Frame.spareBody, FrameKind.length]
  have hseq : BitVec.ofNat 16 (fieldAt (framed body) 2 2) = q :=
    seqAt (pre := [spareHeader 0b10001 spare (r = .damaged), e]) (post := beBytes 4 (crc body).toNat)
      (by rw [framed, hdef, Frame.spareBody, List.append_assoc]) rfl
  have hepoch : BitVec.ofNat 8 (fieldAt (framed body) 1 1) = e := epochAt _ _ _
  rw [ofBytes_framed (code := 0b10001) rfl rfl hlength, FrameKind.fields, hseq, hepoch]
  cases r <;> rfl

theorem ofBytes_report (r : Report) (spare : BitVec 2) (upper : BitVec 4) (low : BitVec 6) (unused : Bool) :
    Frame.ofBytes (framed ((Frame.report r).spareBody spare upper low unused)) = some (.report r) := by
  set body := (Frame.report r).spareBody spare upper low unused with hdef
  have hlength : body.length + 4 = FrameKind.report.length (r.kind = .apply) := by
    simp [hdef, Frame.spareBody, lineBytes, FrameKind.length]
  have hseq : BitVec.ofNat 16 (fieldAt (framed body) 2 2) = r.seq :=
    seqAt (pre := [spareHeader 0b10010 spare (r.kind = .apply), r.epoch])
      (post := lineBytes r.target low ++ beBytes 4 (crc body).toNat)
      (by rw [framed, hdef, Frame.spareBody]; simp only [List.append_assoc]) rfl
  have hline : lineAt (framed body) 4 = r.target :=
    lineAt_bytes (pre := [spareHeader 0b10010 spare (r.kind = .apply), r.epoch] ++ beBytes 2 r.seq.toNat)
      (post := beBytes 4 (crc body).toNat) (by rw [framed, hdef, Frame.spareBody, List.append_assoc]) (by simp)
  have hepoch : BitVec.ofNat 8 (fieldAt (framed body) 1 1) = r.epoch := epochAt _ _ _
  rw [ofBytes_framed (code := 0b10010) rfl rfl hlength, FrameKind.fields, hseq, hline, hepoch]
  cases r with
  | mk e q kind target => cases kind <;> rfl

theorem ofBytes_test (p : BitVec 16) (d : LineData) (spare : BitVec 2) (upper : BitVec 4) (low : BitVec 6)
    (unused : Bool) : Frame.ofBytes (framed ((Frame.test p d).spareBody spare upper low unused)) = some (.test p d) := by
  set body := (Frame.test p d).spareBody spare upper low unused with hdef
  have hlength : body.length + 4 = FrameKind.test.length unused := by simp [hdef, Frame.spareBody, FrameKind.length]
  have hpattern : BitVec.ofNat 16 (fieldAt (framed body) 1 2) = p :=
    seqAt (pre := [spareHeader 0b10100 spare unused]) (post := d.toList ++ beBytes 4 (crc body).toNat)
      (by rw [framed, hdef, Frame.spareBody]; simp only [List.append_assoc]) rfl
  have hdata : dataAt (framed body) 3 = d :=
    dataAt_bytes (pre := [spareHeader 0b10100 spare unused] ++ beBytes 2 p.toNat) (post := beBytes 4 (crc body).toNat)
      (by rw [framed, hdef, Frame.spareBody, List.append_assoc]) (by simp)
  rw [ofBytes_framed (code := 0b10100) rfl rfl hlength, FrameKind.fields, hpattern, hdata]

/-- Every frame is read back from its layout, whatever stands in the bits that are not examined (R98, R99). -/
theorem ofBytes_spareBody (f : Frame) (hf : ∀ d, f = .data d → d.kind = .sweep → d.mask = fullMask) (spare : BitVec 2)
    (upper : BitVec 4) (low : BitVec 6) (unused : Bool) :
    Frame.ofBytes (framed (f.spareBody spare upper low unused)) = some f := by
  rcases f with (⟨e, b⟩ | e) | d | e | ⟨e, q, n⟩ | ⟨e, q, r⟩ | r | ⟨p, d⟩
  · exact ofBytes_helloSource e b spare upper low unused
  · exact ofBytes_helloSink e spare upper low unused
  · by_cases hk : d.kind = .sweep
    · exact ofBytes_sweep hk (hf d rfl hk) spare upper low unused
    · exact ofBytes_masked hk spare upper low unused
  · exact ofBytes_probe e spare upper low unused
  · exact ofBytes_ack e q n spare upper low unused
  · exact ofBytes_nak e q r spare upper low unused
  · exact ofBytes_report r spare upper low unused
  · exact ofBytes_test p d spare upper low unused

theorem toBytes_eq_framed (f : Frame) : f.toBytes = framed (f.spareBody 0 0 0 false) := by
  rw [Frame.toBytes, body_eq_spareBody]
  rfl

theorem framed_length (body : List Byte) : (framed body).length = body.length + 4 := by simp [framed]

/-- Settles O5: the layout is `Frame.spareBody` with its CRC, which is read back kind by kind. -/
theorem frameRoundTrip : Obligations.FrameRoundTrip := by
  refine ⟨beBytes_eq_map, ?_⟩
  intro f hf frame
  have hframe (spare : BitVec 2) (upper : BitVec 4) (low : BitVec 6) (unused : Bool) :
      frame spare upper low unused = framed (f.spareBody spare upper low unused) := by
    rcases f with (⟨e, b⟩ | e) | d | e | ⟨e, q, n⟩ | ⟨e, q, r⟩ | r | ⟨p, d⟩
    case nak => cases r <;> rfl
    case report =>
      obtain ⟨e, q, kind, target⟩ := r
      cases kind <;> rfl
    all_goals rfl
  have hbytes := toBytes_eq_framed f
  refine ⟨hbytes.trans (hframe 0 0 0 false).symm, fun spare upper low unused => ?_, ?_, ?_⟩
  · rw [hframe]
    exact ofBytes_spareBody f hf spare upper low unused
  · rw [hbytes]
    exact ofBytes_spareBody f hf 0 0 0 false
  · rw [hbytes, framed_length]
    rcases f with (⟨e, b⟩ | e) | d | e | ⟨e, q, n⟩ | ⟨e, q, r⟩ | r | ⟨p, d⟩
    case data =>
      by_cases hk : d.kind = .sweep <;> simp [Frame.spareBody, hk, lineBytes, maskBytes]
    all_goals simp [Frame.spareBody, lineBytes]

end Sys2Proof.Machine
end

section
/-! The transmit sequencer's receipts: the position of a sequence number, the NAK, and the ACK. -/

namespace Sys2Proof.Machine

/-! ### The position of a sequence number -/

theorem seqBehind_iff (a b : Seq) : seqBehind a b = true ↔ 32768 ≤ (a - b).toNat := decide_eq_true_iff

theorem seqAhead_iff (a b : Seq) : seqAhead a b = true ↔ 1 ≤ (a - b).toNat ∧ (a - b).toNat ≤ 32767 := by
  simp [seqAhead]

/-- The index of the first SENT entry of a sequence (R117). -/
def Journal.sentIndex (j : Journal) (q : Seq) : Option Nat := j.entries.findIdx? fun e => e.sent && e.seq == q

theorem sentIndex_eq_none_iff (j : Journal) (q : Seq) :
    j.sentIndex q = none ↔ ¬ ∃ e ∈ j.entries, e.sent = true ∧ e.seq = q := by
  simp [Journal.sentIndex, List.findIdx?_eq_none_iff]

theorem sentIndex_eq_some {j : Journal} {q : Seq} {k : Nat} (h : j.sentIndex q = some k) :
    ∃ e, j.entries[k]? = some e ∧ e.sent = true ∧ e.seq = q ∧
      ∀ i < k, ∀ x, j.entries[i]? = some x → ¬ (x.sent = true ∧ x.seq = q) := by
  obtain ⟨hk, hat, hfirst⟩ := List.findIdx?_eq_some_iff_getElem.1 h
  simp only [Bool.and_eq_true, beq_iff_eq] at hat hfirst
  refine ⟨_, List.getElem?_eq_getElem hk, hat.1, hat.2, fun i hi x hx => ?_⟩
  obtain ⟨-, rfl⟩ := List.getElem?_eq_some_iff.1 hx
  exact hfirst i hi

theorem place_behind {j : Journal} {q : Seq} (h : seqBehind q j.headPosition = true) : j.place q = .old := if_pos h

theorem place_sent {j : Journal} {q : Seq} {k : Nat} (h : ¬ seqBehind q j.headPosition = true)
    (hk : j.sentIndex q = some k) : j.place q = .inFlight k := by
  rw [Journal.sentIndex] at hk
  rw [Journal.place, if_neg h, hk]

theorem place_unsent {j : Journal} {q : Seq} (h : ¬ seqBehind q j.headPosition = true) (hnone : j.sentIndex q = none) :
    j.place q =
      if q = j.sendPosition then .atSend
      else if ∃ e ∈ j.entries, e.sent = false ∧ e.seq = q then .waiting else .beyond := by
  rw [Journal.sentIndex] at hnone
  rw [Journal.place, if_neg h, hnone]
  simp

/-- A sequence in flight is not behind the head; its index is that of its first SENT entry (R117). -/
theorem place_inFlight_iff (j : Journal) (q : Seq) (k : Nat) :
    j.place q = .inFlight k ↔ ¬ seqBehind q j.headPosition = true ∧ j.sentIndex q = some k := by
  refine ⟨fun h => ?_, fun ⟨hahead, hk⟩ => place_sent hahead hk⟩
  by_cases hbehind : seqBehind q j.headPosition = true
  · exact nomatch (place_behind hbehind).symm.trans h
  · refine ⟨hbehind, ?_⟩
    cases hi : j.sentIndex q with
    | some i =>
      rw [place_sent hbehind hi] at h
      rw [SeqPosition.inFlight.inj h]
    | none =>
      rw [place_unsent hbehind hi] at h
      split at h
      · exact nomatch h
      · split at h <;> exact nomatch h

theorem sendPosition_allSent {j : Journal} (h : ∀ e ∈ j.entries, e.sent = true) : j.sendPosition = j.nextSeq := by
  have hnone : j.entries.find? (fun e => !e.sent) = none := List.find?_eq_none.2 fun e he => by simp [h e he]
  rw [Journal.sendPosition, hnone]

theorem sendPosition_cursor {j : Journal} {front rest : List JournalEntry} {e : JournalEntry}
    (hj : j.entries = front ++ e :: rest) (hf : ∀ x ∈ front, x.sent = true) (he : e.sent = false) :
    j.sendPosition = e.seq := by
  rw [Journal.sendPosition, hj, find?_cursor hf he]

/-- Settles O35, position by position in the order of the table of R117. -/
theorem sequencePositionsAreTheFirstThatFits : Obligations.SequencePositionsAreTheFirstThatFits := by
  intro j q head old sent
  have hold : seqBehind q j.headPosition = true ↔ old := seqBehind_iff q j.headPosition
  have hnone : j.sentIndex q = none ↔ ¬ sent := sentIndex_eq_none_iff j q
  refine ⟨fun h => place_behind (hold.2 h), fun k hk => ?_, fun hahead hsent => ?_, fun hahead hunsent => ?_,
    sendPosition_allSent, fun front e rest => sendPosition_cursor⟩
  · obtain ⟨hahead, hindex⟩ := (place_inFlight_iff j q k).1 hk
    exact ⟨mt hold.2 hahead, sentIndex_eq_some hindex⟩
  · obtain ⟨k, hk⟩ := Option.ne_none_iff_exists'.1 fun h => hnone.1 h hsent
    exact ⟨k, place_sent (mt hold.1 hahead) hk⟩
  · rw [place_unsent (mt hold.1 hahead) (hnone.2 hunsent)]
    refine ⟨fun hat => if_pos hat, fun hnot hwaiting => ?_, fun hnot habsent => ?_⟩
    · rw [if_neg hnot, if_pos hwaiting]
    · rw [if_neg hnot, if_neg fun ⟨e, he, _, heq⟩ => habsent e he heq]

/-! ### A frame for the transmit sequencer -/

theorem noteReceipt_epoch (s : State) : s.noteReceipt.link.epoch = s.link.epoch := by
  unfold State.noteReceipt
  split <;> rfl

/-- A frame of the acknowledgment side at a SOURCE in UP: heard, and acted on in the present epoch (R100). -/
theorem take_sequencer {s : State} (f : State → State) (e : Epoch) (h : Ready s) (hin : s.inSession)
    (hsignal : s.link.signal = .present) (htest : s.link.test.running = false) :
    (s.take fun s =>
        if s.receives then
          if s.noteReceipt.toSequencer ∧ e = s.noteReceipt.link.epoch then (f s.noteReceipt).settle else s.noteReceipt
        else s) =
      if e = s.link.epoch then (f s.noteReceipt).settle else s.noteReceipt := by
  have hseq : s.noteReceipt.toSequencer = true := (noteReceipt_toSequencer s).trans ((toSequencer_iff s).2 hin)
  rw [take_received _ h hsignal htest]
  simp only [hseq, noteReceipt_epoch, true_and]

/-! ### The NAK -/

theorem exec_receiveNak {s : State} (e : Epoch) (q : Seq) (reason : NakReason) (h : Ready s) (hin : s.inSession)
    (hsignal : s.link.signal = .present) (htest : s.link.test.running = false) :
    exec (.receiveNak e q reason) s =
      .next (if e = s.link.epoch then (s.noteReceipt.takeNak q).settle else s.noteReceipt) :=
  congrArg Host.Outcome.next (take_sequencer (fun t => t.takeNak q) e h hin hsignal htest)

theorem takeNak_inFlight {s : State} {q : Seq} {k : Nat} (h : s.journal.place q = .inFlight k) :
    s.takeNak q = s.askRewind k := by
  rw [State.takeNak, h]

theorem takeNak_atSend {s : State} {q : Seq} (h : s.journal.place q = .atSend) : s.takeNak q = s := by
  rw [State.takeNak, h]

theorem takeNak_bogus {s : State} {q : Seq}
    (h : s.journal.place q = .old ∨ s.journal.place q = .waiting ∨ s.journal.place q = .beyond) :
    s.takeNak q = s.bogus q := by
  rcases h with h | h | h <;> rw [State.takeNak, h]

/-- Settles O45: outside UP the NAK is unheeded, in session it acts by the position of its sequence. -/
theorem nakRewindsToAnInFlightEntry : Obligations.NakRewindsToAnInFlightEntry := by
  intro e q reason s hready hsignal htest
  refine ⟨fun hnot => ?_, fun hin => ?_⟩
  · have hside : AckSide (.receiveNak e q reason) := .inr (.inl ⟨e, q, reason, rfl⟩)
    rw [exec_unheeded hready hsignal htest (.inr (.inl ⟨hside, fun hin => hnot hin.2⟩)), noteReceipt_notUp hnot]
  · intro seen
    have hseen : s.noteReceipt = seen := noteReceipt_up hin.2
    rw [exec_receiveNak e q reason hready hin hsignal htest, hseen]
    refine ⟨fun he => by rw [if_neg he], fun he => ?_⟩
    rw [if_pos he]
    refine ⟨fun k hk => ?_, fun hat hs => ?_, fun hbogus => ?_⟩
    · rw [takeNak_inFlight (s := seen) hk]
    · have hsettled : Settled seen := hseen ▸ hs.congr (noteReceipt_rest s)
      rw [takeNak_atSend (s := seen) hat, hsettled]
    · rw [takeNak_bogus (s := seen) hbogus]
      rfl

/-! ### The ACK -/

theorem exec_receiveAck {s : State} (e : Epoch) (q f : Seq) (h : Ready s) (hin : s.inSession)
    (hsignal : s.link.signal = .present) (htest : s.link.test.running = false) :
    exec (.receiveAck e q f) s =
      .next (if e = s.link.epoch then (s.noteReceipt.takeAck q f).settle else s.noteReceipt) :=
  congrArg Host.Outcome.next (take_sequencer (fun t => t.takeAck q f) e h hin hsignal htest)

theorem takeAck_old {s : State} {q : Seq} (f : Seq) (h : s.journal.place q = .old) :
    s.takeAck q f = s.reconcile f q := by
  rw [State.takeAck, h]

theorem takeAck_inFlight {s : State} {q : Seq} {k : Nat} (f : Seq) (h : s.journal.place q = .inFlight k) :
    s.takeAck q f = (s.progress k).reconcile f q := by
  rw [State.takeAck, h]

theorem takeAck_bogus {s : State} {q : Seq} (f : Seq)
    (h : s.journal.place q = .atSend ∨ s.journal.place q = .waiting ∨ s.journal.place q = .beyond) :
    s.takeAck q f = s.bogus q := by
  rcases h with h | h | h <;> rw [State.takeAck, h]

/-- The reconciliation writes the sequencer and the fault record from the state that the ACK found: neither the
suspension nor the marks touch the sequencer or the link (R128). -/
theorem reconcile_eq (s : State) (f q : Seq) :
    s.reconcile f q =
      if 1 ≤ (f - s.seq.processed).toNat ∧ (f - s.seq.processed).toNat ≤ 32767 then
        ((((s.suspendWhere Window.enabled .missingReport).markAll.withSeq { s.seq with processed := f }).offerFault
              .missingReport none none (some q) (some s.link.epoch)).raise
          .partnerFault)
      else s := by
  obtain ⟨-, hlink, -, -, -, hseq, -⟩ := suspendWhere_fields s Window.enabled .missingReport
  rw [State.reconcile]
  simp only [seqAhead_iff]
  rw [markAll_eq]
  simp only [State.withSeq_link, State.withDirty_seq, State.withDirty_link, hseq, hlink]

theorem acknowledgeEntry_time (s : State) (e : JournalEntry) : (s.acknowledgeEntry e).time = s.time := by
  cases hk : e.kind with
  | update => rw [acknowledgeEntry_update s hk, State.answerAcked, answerTags_eq]; rfl
  | mark => rw [acknowledgeEntry_mark s hk, State.answerAcked, answerTags_eq]; rfl
  | sweep => rw [acknowledgeEntry_sweep s hk, State.answerAcked, answerTags_eq, sweepTest_eq]; rfl

theorem acknowledge_time (n : Nat) (s : State) : (State.acknowledge n s).time = s.time := by
  induction n generalizing s with
  | zero => rfl
  | succ n ih =>
    cases he : s.journal.entries with
    | nil => rw [State.acknowledge, he]
    | cons e rest => rw [acknowledge_cons n he, ih, acknowledgeEntry_time]; rfl

theorem sentCount_eq_zero_iff (j : Journal) : j.sentCount = 0 ↔ ¬ j.entries.any (·.sent) = true := by
  rw [sentCount_eq_countP]
  simp

/-- Progress through an entry restarts the rounds, and the acknowledgment timer while an entry is SENT (R120, R126). -/
theorem progress_eq (s : State) (k : Nat) :
    s.progress k =
      (State.acknowledge (k + 1) s).withSeq
        { (State.acknowledge (k + 1) s).seq with
          rounds := 0
          ackStart := if (s.journal.entries.drop (k + 1)).any (·.sent) then some s.time else none } := by
  rw [State.progress]
  simp only [sentCount_eq_zero_iff, acknowledge_entries, acknowledge_time, ite_not]

theorem progress_link (s : State) (k : Nat) : (s.progress k).link = s.link := (acknowledge_owners (k + 1) s).link

/-- Settles O46, by the position of the sequence: `progress_eq` where it is in flight, then `reconcile_eq`. -/
theorem ackRemovesThroughItsEntry : Obligations.AckRemovesThroughItsEntry := by
  intro e q f s hin hready hsignal htest seen reconciled
  have hreconcile (v : State) (hv : v.link = seen.link) : v.reconcile f q = reconciled v := by
    rw [reconcile_eq, hv]
    rfl
  have hseen : s.noteReceipt = seen := noteReceipt_up hin.2
  rw [exec_receiveAck e q f hready hin hsignal htest, hseen]
  refine ⟨fun he => by rw [if_neg he], fun he => ?_⟩
  rw [if_pos he]
  refine ⟨fun hold => ?_, fun k hk => ?_, fun hbogus => ?_⟩
  · rw [takeAck_old (s := seen) f hold, hreconcile seen rfl]
  · refine ⟨_, rfl, acknowledge_entries (k + 1) seen, ?_⟩
    rw [takeAck_inFlight (s := seen) f hk, hreconcile _ (progress_link seen k), progress_eq]
    rfl
  · rw [takeAck_bogus (s := seen) f hbogus]
    rfl

end Sys2Proof.Machine
end

section
/-! The receive checker's receipts at a SINK in UP: the data frame by its sequence, and the PROBE. -/

namespace Sys2Proof.Machine

/-- A frame of the data side at a SINK in UP: heard, and acted on in the present epoch (R100). -/
theorem take_checker {s : State} (f : State → State) (e : Epoch) (h : Ready s) (hin : s.sinkSession)
    (hsignal : s.link.signal = .present) (htest : s.link.test.running = false) :
    (s.take fun s =>
        if s.receives then
          if s.noteReceipt.toChecker ∧ e = s.noteReceipt.link.epoch then (f s.noteReceipt).settle else s.noteReceipt
        else s) =
      if e = s.link.epoch then (f s.noteReceipt).settle else s.noteReceipt := by
  have hchecker : s.noteReceipt.toChecker = true := (noteReceipt_toChecker s).trans ((toChecker_iff s).2 hin)
  rw [take_received _ h hsignal htest]
  simp only [hchecker, noteReceipt_epoch, true_and]

theorem exec_receiveDataFrame {s : State} (f : DataFrame) (h : Ready s) (hin : s.sinkSession)
    (hsignal : s.link.signal = .present) (htest : s.link.test.running = false) :
    exec (.receiveDataFrame f) s =
      .next
        (if f.epoch = s.link.epoch then (s.noteReceipt.withRx (s.noteReceipt.rx.checkFrame f)).settle
        else s.noteReceipt) :=
  congrArg Host.Outcome.next (take_checker (fun t => t.withRx (t.rx.checkFrame f)) f.epoch h hin hsignal htest)

theorem exec_receiveProbe {s : State} (e : Epoch) (h : Ready s) (hin : s.sinkSession)
    (hsignal : s.link.signal = .present) (htest : s.link.test.running = false) :
    exec (.receiveProbe e) s =
      .next
        (if e = s.link.epoch then (s.noteReceipt.withRx { s.noteReceipt.rx with ackPending := true }).settle
        else s.noteReceipt) :=
  congrArg Host.Outcome.next (take_checker (fun t => t.withRx { t.rx with ackPending := true }) e h hin hsignal htest)

/-! ### The sequence of a data frame -/

section
variable {x : Receiver} {f : DataFrame}

theorem checkFrame_accepted (hseq : f.seq = x.expected) (hplace : x.applyQueue.length < Config.applyQueueSize) :
    x.checkFrame f =
      { x with
        applyQueue := x.applyQueue ++ [entryOf f]
        expected := x.expected + 1
        nakOutstanding := false
        nakSlot := none } := by
  rw [Receiver.checkFrame, if_pos hseq, if_pos hplace]

theorem checkFrame_full (hseq : f.seq = x.expected) (hfull : Config.applyQueueSize ≤ x.applyQueue.length) :
    x.checkFrame f = x := by
  rw [Receiver.checkFrame, if_pos hseq, if_neg (Nat.not_lt.2 hfull)]

theorem checkFrame_behind (hseq : f.seq ≠ x.expected) (hbehind : 32768 ≤ (f.seq - x.expected).toNat) :
    x.checkFrame f = { x with ackPending := true } := by
  rw [Receiver.checkFrame, if_neg hseq, if_pos ((seqBehind_iff _ _).2 hbehind)]

theorem checkFrame_ahead (hseq : f.seq ≠ x.expected) (hahead : (f.seq - x.expected).toNat ≤ 32767) :
    x.checkFrame f = x.placeNak .gap := by
  have hnot : ¬ seqBehind f.seq x.expected = true := by rw [seqBehind_iff]; omega
  rw [Receiver.checkFrame, if_neg hseq, if_neg hnot]

end

theorem placeNak_clear {x : Receiver} (reason : NakReason) (h : x.nakOutstanding = false) :
    x.placeNak reason = { x with nakSlot := some reason, nakOutstanding := true } := by
  simp [Receiver.placeNak, h]

theorem placeNak_outstanding {x : Receiver} (reason : NakReason) (h : x.nakOutstanding = true) :
    x.placeNak reason = x := if_pos h

/-- Settles O44: the epoch first, then the data frame by its sequence in the order of the table of R134. -/
theorem sinkTakesDataFramesAndProbes : Obligations.SinkTakesDataFramesAndProbes := by
  refine And.intro ?_ ?_
  · intro f s hin hready hsignal htest seen
    have hseen : s.noteReceipt = seen := noteReceipt_up hin.2
    rw [exec_receiveDataFrame f hready hin hsignal htest, hseen]
    refine ⟨fun hother => by rw [if_neg hother], fun hepoch => ?_⟩
    rw [if_pos hepoch, show seen.rx = s.rx from rfl]
    refine ⟨fun hseq hplace => ?_, fun hseq hfull => ?_, fun hseq hbehind => ?_, fun hseq hahead => ?_⟩
    · rw [checkFrame_accepted hseq hplace]
      rfl
    · rw [checkFrame_full hseq hfull]
      rfl
    · rw [checkFrame_behind hseq hbehind]
    · rw [checkFrame_ahead hseq hahead]
      refine ⟨fun hclear => ?_, fun hset => ?_⟩
      · rw [placeNak_clear .gap hclear]
      · rw [placeNak_outstanding .gap hset]
        rfl
  · intro e s hin hready hsignal htest seen
    have hseen : s.noteReceipt = seen := noteReceipt_up hin.2
    rw [exec_receiveProbe e hready hin hsignal htest, hseen]
    exact ⟨fun hepoch => by rw [if_pos hepoch]; rfl, fun hother => by rw [if_neg hother]⟩

end Sys2Proof.Machine
end

section
/-! An apply entry is finished: the receiver's record and the service port, each by its own equation. -/

namespace Sys2Proof.Machine

/-- The receiver's record after step 4 of R142: last-applied and ack pending follow with session effect alone. -/
def Receiver.movedTo (x : Receiver) (q : Seq) (session : Bool) : Receiver :=
  if session then { x with lastApplied := q, ackPending := true } else x

/-- The receiver's record once its apply head has left the queue (R142 step 1). -/
def Receiver.headLeft (x : Receiver) : Receiver := { x with applyQueue := x.applyQueue.tail }

theorem sessionEffect_eq (s : State) (e : ApplyEntry) :
    s.sessionEffect e = decide (s.role = .sink ∧ s.link.state = .up ∧ e.epoch = s.link.epoch) := by
  rw [Bool.eq_iff_iff]
  simp [State.sessionEffect, and_assoc]

@[simp] theorem sessionEffect_withRx (s : State) (x : Receiver) (e : ApplyEntry) :
    (s.withRx x).sessionEffect e = s.sessionEffect e := rfl

@[simp] theorem sessionEffect_withService (s : State) (v : Service) (e : ApplyEntry) :
    (s.withService v).sessionEffect e = s.sessionEffect e := rfl

theorem moveApplied_eq (s : State) (e : ApplyEntry) :
    s.moveApplied e = s.withRx (s.rx.movedTo e.seq (s.sessionEffect e)) := by
  unfold State.moveApplied Receiver.movedTo
  split <;> rfl

theorem countApplied_eq (s : State) (e : ApplyEntry) :
    s.countApplied e =
      (s.withRx { s.rx with appliedMark := if e.kind = .mark then e.markRecord else s.rx.appliedMark }).withService
        { s.service with
          events := if e.kind = .mark then s.service.events ||| EventCause.markApplied.flag else s.service.events
          stats := { s.service.stats with entriesApplied := countUp s.service.stats.entriesApplied } } := by
  unfold State.countApplied
  by_cases hmark : e.kind = .mark
  · simp only [if_pos hmark]
    rfl
  · simp only [if_neg hmark]
    rfl

theorem applyFault_eq (s : State) (e : ApplyEntry) (kind : ApplyFault) (w : Option WinIdx) :
    s.applyFault e kind w =
      (s.withRx
          (if s.sessionEffect e then
            { s.rx with
              applyFaults := s.rx.applyFaults + 1
              reportQueue :=
                s.rx.reportQueue ++ [{ epoch := s.link.epoch, seq := e.seq, kind := kind, target := e.target }] }
          else s.rx)).withService
        ((s.offerFault (applyFaultKind kind) w (some e.target) (some e.seq) (some e.epoch)).raise
            .applyFault).service := by
  unfold State.applyFault
  split <;> rfl

/-! ### The three ways to finish -/

theorem finishEntry_unwritten (s : State) (e : ApplyEntry) :
    s.finishEntry e .unwritten = (s.withRx s.rx.headLeft).moveApplied e := rfl

theorem finishEntry_written (s : State) (e : ApplyEntry) :
    s.finishEntry e .written = ((s.withRx s.rx.headLeft).countApplied e).moveApplied e := rfl

theorem finishEntry_fault (s : State) (e : ApplyEntry) (kind : ApplyFault) (w : Option WinIdx) :
    s.finishEntry e (.fault kind w) = ((s.withRx s.rx.headLeft).applyFault e kind w).moveApplied e := rfl

/-- Settles O50: each way to finish an entry moves last-applied by the session effect found before it, and the word of a
MARK is that of the lowest byte of its mask. -/
theorem finishingAnEntryFollowsTheRules : Obligations.FinishingAnEntryFollowsTheRules := by
  intro s e session left moved
  have hsession : s.sessionEffect e = session := sessionEffect_eq s e
  refine ⟨?_, ⟨wordIndexOf e.mask, wordIndexOf_holds, wordIndexOf_lowest e.mask, ?_⟩, fun kind w => ?_⟩
  · rw [finishEntry_unwritten, moveApplied_eq, sessionEffect_withRx, hsession]
    rfl
  · rw [finishEntry_written, countApplied_eq, moveApplied_eq, ← countUp_eq]
    simp only [sessionEffect_withService, sessionEffect_withRx, hsession]
    rfl
  · rw [finishEntry_fault, applyFault_eq, moveApplied_eq]
    simp only [sessionEffect_withService, sessionEffect_withRx, hsession]
    cases kind <;> rfl

end Sys2Proof.Machine
end

section
/-! A unit that becomes SOURCE: the end of a drain, and the command ASSUME_SOURCE. -/

namespace Sys2Proof.Machine

/-! ### What follows at once on a SOURCE in DOWN -/

/-- The service port replaced alike on both sides. -/
theorem SameButSettled.withService {u t : State} (h : SameButSettled u t) (x : Service) :
    SameButSettled (u.withService x) (t.withService x) := by
  obtain ⟨h1, h2, h3, h4, h5, h6, h7, h8, h9, h10, h11, h12, h13, h14, h15, h16, h17, h18, h19, h20, -, h22⟩ := h
  exact ⟨h1, h2, h3, h4, h5, h6, h7, h8, h9, h10, h11, h12, h13, h14, h15, h16, h17, h18, h19, h20, rfl, h22⟩

theorem SameButSettled.raise {u t : State} (h : SameButSettled u t) (c : EventCause) :
    SameButSettled (u.raise c) (t.raise c) := by
  unfold State.raise
  rw [h.service_eq]
  exact h.withService _

/-- A SOURCE sends no frame of the sink transmitter (R118). -/
theorem chooseFrame_source_rx {s : State} (probe : Bool) (hr : s.role = .source) : (s.chooseFrame probe).rx = s.rx := by
  cases hl : s.link.lane with
  | some f => rw [chooseFrame_busy probe hl]
  | none =>
    rcases sender_cases s with hin | hin | ⟨-, hh⟩ | ⟨hk, -⟩ | hq
    · rw [chooseFrame_source probe hl hin, State.sourceFrame]
      split
      · rfl
      · split <;> rfl
    · exact nomatch hr.symm.trans hin.1
    · rw [chooseFrame_hailSource probe hl hr hh]
      split <;> rfl
    · exact nomatch hr.symm.trans hk
    · rw [chooseFrame_quiet probe hq]

theorem settle_source_rx {s : State} (hr : s.role = .source) : s.settle.rx = s.rx := by
  obtain ⟨-, -, -, hrx⟩ := settleWith_lane s false
  unfold State.settle
  rw [hrx, enterHail_eq]
  exact chooseFrame_source_rx false hr

/-- The link of `t` is what a SOURCE makes of the DOWN link of `s`: with the signal PRESENT it hails under an advanced epoch,
and otherwise it stays DOWN (R102, R103). -/
def Hails (s t : State) : Prop :=
  (s.link.signal = .present → t.link.state = .hail ∧ t.link.epoch = nextEpoch s.link.epoch) ∧
    (s.link.signal = .absent → t.link.state = .down ∧ t.link.epoch = s.link.epoch)

theorem settle_hails {s : State} (hr : s.role = .source) (hl : s.link.state = .down)
    (htest : s.link.test.running = false) : Hails s s.settle := by
  obtain ⟨hstate, hepoch⟩ := settleWith_link s false
  unfold Hails State.settle
  rw [hstate, hepoch]
  refine ⟨fun hp => ?_, fun ha => ?_⟩
  · rw [enterHail_taken hl (.inl hr) hp htest, if_pos hr]
    exact ⟨rfl, rfl⟩
  · rw [enterHail_refused fun ⟨_, _, hp, _⟩ => nomatch ha.symm.trans hp]
    exact ⟨hl, rfl⟩

/-! ### The role changes of ASSUME_SOURCE -/

/-- In DOWN only a change from SOURCE to ISOLATED has a link part (R38, R155). -/
theorem roleLink_still {s : State} (new : Role) (hl : s.link.state = .down) (hr : s.role ≠ .source) :
    s.roleLink new = s := by
  rw [State.roleLink, hl]
  exact if_neg fun ⟨hsource, _⟩ => hr hsource

/-- A SINK leaves UP by link loss, and HAIL without it (R110, R111, R155). -/
theorem roleLink_sink {s : State} (new : Role) (hr : s.role = .sink) :
    s.roleLink new =
      if s.link.state = .up then (s.leaveLink.raise .linkDown).sinkLoss
      else if s.link.state = .down then s else s.leaveLink := by
  have hnot : ¬ (s.role = .source ∧ new = .isolated) := fun ⟨hsource, _⟩ => nomatch hr.symm.trans hsource
  unfold State.roleLink
  cases hl : s.link.state with
  | up => exact (if_neg hnot).trans (linkLoss_sink .role hl hr)
  | hail | clash | down => exact if_neg hnot

theorem roleBlocks_source_isolated {s : State} (hl : s.link.state = .down) (hr : s.role = .isolated) :
    s.roleBlocks .source = s.withRole .source := by
  unfold State.roleBlocks
  rw [roleLink_still _ hl (by rw [hr]; decide), hr]
  rfl

/-- The end of a drain marks every granule of every enabled window (R79, R161). -/
theorem roleBlocks_source_draining {s : State} (hl : s.link.state = .down) (hr : s.role = .draining) :
    s.roleBlocks .source = (s.withRole .source).withDirty s.markAll.dirty := by
  have hdirty : (s.withRole .source).markAll.dirty = s.markAll.dirty := markAll_dirty_congr rfl rfl
  have hblocks : s.roleBlocks .source = (s.withRole .source).markAll := by
    unfold State.roleBlocks
    rw [roleLink_still _ hl (by rw [hr]; decide), hr]
    rfl
  rw [hblocks, markAll_eq, hdirty]

theorem roleBlocks_draining {s : State} (hr : s.role = .sink) :
    s.roleBlocks .draining = (s.roleLink .draining).withRole .draining := by
  unfold State.roleBlocks
  rw [hr]
  rfl

/-! ### The end of a drain -/

/-- DOWN is the one link state that DRAINING admits (R101). -/
theorem LinkLegal.down_of_draining {s : State} (h : LinkLegal s) (hr : s.role = .draining) : s.link.state = .down := by
  obtain ⟨hclash, hopen⟩ := h
  cases hl : s.link.state with
  | down => rfl
  | hail => simpa [hr] using hopen (.inl hl)
  | up => simpa [hr] using hopen (.inr hl)
  | clash => exact nomatch hr.symm.trans (hclash hl)

/-- A drain stands at its end: the role is DRAINING, the apply queue is empty, and the link is DOWN with no test running
(R160, R161). -/
structure Drained (s : State) : Prop where
  role : s.role = .draining
  queue : s.rx.applyQueue = []
  down : s.link.state = .down
  test : s.link.test.running = false

theorem drainCheck_other {s : State} (h : ¬ (s.role = .draining ∧ s.rx.applyQueue = [])) : s.drainCheck = s := if_neg h

/-- The unit after the end of a drain with the dirty set that it leaves, before what follows at once (R161). -/
def State.drainEnded (s : State) (dirty : List Nat) : State :=
  ((s.withRole .source).withDirty dirty).withService { s.service with override := false }

/-- The end of a drain: the role, the marks and the override, then what follows at once, then ROLE_DONE (R161). -/
theorem Drained.drainCheck_eq {s : State} (h : Drained s) :
    s.drainCheck = (s.drainEnded s.markAll.dirty).settle.raise .roleDone := by
  unfold State.drainCheck State.endDrain
  rw [if_pos ⟨h.role, h.queue⟩, changeRole_eq, roleBlocks_source_draining h.down h.role]
  rfl

theorem Drained.same {s : State} (h : Drained s) :
    SameButSettled ((s.drainEnded s.markAll.dirty).raise .roleDone) s.drainCheck := by
  rw [h.drainCheck_eq]
  exact (settle_same _).raise _

theorem Drained.hails {s : State} (h : Drained s) : Hails s s.drainCheck := by
  rw [h.drainCheck_eq]
  generalize s.markAll.dirty = dirty
  exact settle_hails (s := s.drainEnded dirty) rfl h.down h.test

theorem Drained.rx {s : State} (h : Drained s) : s.drainCheck.rx = s.rx := by
  rw [h.drainCheck_eq]
  generalize s.markAll.dirty = dirty
  exact settle_source_rx (s := s.drainEnded dirty) rfl

/-- The fields that the end of a drain leaves as they were, and what it sets (R161). -/
theorem Drained.fields {s : State} (h : Drained s) :
    s.drainCheck.role = .source ∧ s.drainCheck.windows = s.windows ∧ s.drainCheck.port.op = s.port.op ∧
      s.drainCheck.dirty = s.markAll.dirty ∧
      s.drainCheck.service =
        { s.service with override := false, events := s.service.events ||| EventCause.roleDone.flag } := by
  have hsame := h.same
  generalize s.markAll.dirty = dirty at *
  exact ⟨hsame.role_eq, hsame.windows_eq, hsame.op_eq, hsame.dirty_eq, hsame.service_eq⟩

theorem Drained.mem_dirty {s : State} (h : Drained s) (g : Nat) :
    g ∈ s.drainCheck.dirty ↔
      g ∈ s.dirty ∨ ∃ v : WinIdx, s.windows[v].state ≠ .off ∧ s.windows[v].localHas g = true := by
  obtain ⟨-, -, -, hdirty, -⟩ := h.fields
  rw [hdirty, mem_markAll]
  simp only [enabled_iff]

theorem exec_drainEnd {s : State} (h : Ready s) : exec .drainEnd s = .next s.drainCheck :=
  congrArg Host.Outcome.next (take_ready _ h)

/-- Settles O22: the end of a drain by its blocks, and what follows at once on a SOURCE in DOWN. -/
theorem drainEndMakesTheUnitSource : Obligations.DrainEndMakesTheUnitSource := by
  intro s
  refine ⟨exec_drainEnd, drainCheck_other, fun hlegal htest hr hq => ?_⟩
  have h : Drained s := ⟨hr, hq, hlegal.down_of_draining hr, htest⟩
  refine ⟨_, rfl, h.mem_dirty, ?_, h.hails⟩
  obtain ⟨-, -, -, hdirty, -⟩ := h.fields
  rw [hdirty]
  exact h.same

/-! ### The begin of a drain -/

/-- The events after a SINK leaves its link state: link loss from UP alone (R110, R111). -/
def State.lostEvents (s : State) : BitVec 14 :=
  if s.link.state = .up then s.service.events ||| EventCause.linkDown.flag else s.service.events

/-- `t` is the SINK `s` with its drain begun: DRAINING with the link DOWN, and the receiver as link loss leaves it if the
link was UP (R149, R155, R160). -/
structure DrainBegun (s t : State) : Prop where
  role : t.role = .draining
  windows : t.windows = s.windows
  dirty : t.dirty = s.dirty
  op : t.port.op = s.port.op
  rx : t.rx = if s.link.state = .up then s.sinkLoss.rx else s.rx
  service : t.service = { s.service with override := false, events := s.lostEvents }
  down : t.link.state = .down
  epoch : t.link.epoch = s.link.epoch
  signal : t.link.signal = s.link.signal
  test : t.link.test = s.link.test

/-- What follows at once on a DRAINING unit touches none of it (R103, R118). -/
theorem DrainBegun.settle {s t : State} (h : DrainBegun s t) : DrainBegun s t.settle := by
  have hsame := settle_same t
  obtain ⟨hlink, -, hrx, -⟩ := settleWith_quiet t false (.inr h.role)
  exact {
    role := hsame.role_eq.trans h.role
    windows := hsame.windows_eq.trans h.windows
    dirty := hsame.dirty_eq.trans h.dirty
    op := hsame.op_eq.trans h.op
    rx := hrx.trans h.rx
    service := hsame.service_eq.trans h.service
    down := (congrArg Link.state hlink).trans h.down
    epoch := (congrArg Link.epoch hlink).trans h.epoch
    signal := (congrArg Link.signal hlink).trans h.signal
    test := (congrArg Link.test hlink).trans h.test }

theorem changeRole_draining {s : State} (hr : s.role = .sink) : DrainBegun s (s.changeRole .draining) := by
  rw [changeRole_eq, roleBlocks_draining hr, roleLink_sink .draining hr]
  refine DrainBegun.settle ?_
  by_cases hup : s.link.state = .up
  · have hevents : s.lostEvents = s.service.events ||| EventCause.linkDown.flag := if_pos hup
    rw [if_pos hup]
    exact ⟨rfl, rfl, rfl, rfl, (if_pos hup).symm, by rw [hevents]; rfl, rfl, rfl, rfl, rfl⟩
  · have hevents : s.lostEvents = s.service.events := if_neg hup
    rw [if_neg hup]
    split
    · exact ⟨rfl, rfl, rfl, rfl, (if_neg hup).symm, by rw [hevents]; rfl, ‹_›, rfl, rfl, rfl⟩
    · exact ⟨rfl, rfl, rfl, rfl, (if_neg hup).symm, by rw [hevents]; rfl, rfl, rfl, rfl, rfl⟩

theorem DrainBegun.applyQueue {s t : State} (h : DrainBegun s t) : t.rx.applyQueue = s.rx.applyQueue := by
  rw [h.rx]
  split <;> rfl

theorem DrainBegun.drained {s t : State} (h : DrainBegun s t) (hq : s.rx.applyQueue = [])
    (htest : s.link.test.running = false) : Drained t where
  role := h.role
  queue := h.applyQueue.trans hq
  down := h.down
  test := by rw [h.test, htest]

/-- Whether or not the drain ends in the step that begins it, these fields are as its begin leaves them (R160, R161). -/
theorem DrainBegun.drainCheck_keeps {s t : State} (h : DrainBegun s t) (htest : s.link.test.running = false) :
    t.drainCheck.windows = s.windows ∧ t.drainCheck.rx = t.rx ∧ t.drainCheck.port.op = s.port.op ∧
      t.drainCheck.service.override = false ∧ t.drainCheck.service.faults = s.service.faults := by
  by_cases hq : s.rx.applyQueue = []
  · have hend := h.drained hq htest
    obtain ⟨-, hwindows, hop, -, hservice⟩ := hend.fields
    rw [hwindows, hop, hservice, h.service]
    exact ⟨h.windows, hend.rx, h.op, rfl, rfl⟩
  · rw [drainCheck_other fun hc => hq (h.applyQueue.symm.trans hc.2), h.service]
    exact ⟨h.windows, rfl, h.op, rfl, rfl⟩

/-- A drain with entries to apply does not end in the step that begins it (R160). -/
theorem DrainBegun.drainCheck_waits {s t : State} (h : DrainBegun s t) (hq : s.rx.applyQueue ≠ []) :
    t.drainCheck.role = .draining ∧ t.drainCheck.link.state = .down ∧ t.drainCheck.link.epoch = s.link.epoch ∧
      t.drainCheck.dirty = s.dirty ∧ t.drainCheck.service.events = s.lostEvents := by
  rw [drainCheck_other fun hc => hq (h.applyQueue.symm.trans hc.2), h.service]
  exact ⟨h.role, h.down, h.epoch, h.dirty, rfl⟩

/-- With an empty apply queue the drain ends in the step that begins it (R161). -/
theorem DrainBegun.drainCheck_ends {s t : State} (h : DrainBegun s t) (htest : s.link.test.running = false)
    (hq : s.rx.applyQueue = []) :
    t.drainCheck.role = .source ∧
      (∀ g, g ∈ t.drainCheck.dirty ↔
        g ∈ s.dirty ∨ ∃ v : WinIdx, s.windows[v].state ≠ .off ∧ s.windows[v].localHas g = true) ∧
      t.drainCheck.service.events = s.lostEvents ||| EventCause.roleDone.flag ∧ Hails s t.drainCheck := by
  have hend := h.drained hq htest
  have hmem := hend.mem_dirty
  have hhails := hend.hails
  obtain ⟨hrole, -, -, -, hservice⟩ := hend.fields
  unfold Hails at hhails ⊢
  rw [h.dirty, h.windows] at hmem
  rw [h.signal, h.epoch] at hhails
  rw [hservice, h.service]
  exact ⟨hrole, hmem, rfl, hhails⟩

/-! ### ASSUME_SOURCE -/

theorem exec_assumeSource {s : State} (echo : Byte) (h : Ready s) :
    exec (.assumeSource echo []) s = .next (s.assumeSource echo) :=
  congrArg Host.Outcome.next (takeCommand_taken echo 8 [] _ h rfl)

theorem assumeSource_testing {s : State} (echo : Byte) (h : s.link.test.running = true) :
    s.assumeSource echo = s.reply echo 8 .busy .noReason [] := if_pos h

theorem assumeSource_source {s : State} (echo : Byte) (h : s.link.test.running = false) (hr : s.role = .source) :
    s.assumeSource echo = s.reply echo 8 .done .noReason [] := by
  rw [State.assumeSource, h, if_neg Bool.false_ne_true, hr]
  rfl

theorem assumeSource_draining {s : State} (echo : Byte) (h : s.link.test.running = false) (hr : s.role = .draining) :
    s.assumeSource echo = s.reply echo 8 .busy .noReason [] := by
  rw [State.assumeSource, h, if_neg Bool.false_ne_true, hr]

theorem assumeSource_isolated {s : State} (echo : Byte) (h : s.link.test.running = false) (hr : s.role = .isolated)
    (hl : s.link.state = .down) :
    s.assumeSource echo =
      (((s.withRole .source).withService { s.service with override := false }).settle).reply echo 8 .done .noReason [] := by
  rw [State.assumeSource, h, if_neg Bool.false_ne_true, hr]
  simp only
  rw [changeRole_eq, roleBlocks_source_isolated hl hr]
  rfl

theorem assumeSource_sink {s : State} (echo : Byte) (h : s.link.test.running = false) (hr : s.role = .sink) :
    s.assumeSource echo = ((s.changeRole .draining).drainCheck).reply echo 8 .accepted .noReason [] := by
  rw [State.assumeSource, h, if_neg Bool.false_ne_true, hr]

/-- Settles O19: the answer by the role, and from SINK the begin of the drain, with its end if the queue is empty. -/
theorem assumeSourceFollowsTheRole : Obligations.AssumeSourceFollowsTheRole := by
  intro echo s hready command
  rw [exec_assumeSource echo hready]
  refine ⟨fun htest => by rw [assumeSource_testing echo htest], fun htest => ⟨fun hr => ?_, fun hr => ?_, fun hr hl => ?_,
    fun hr => ?_⟩⟩
  · rw [assumeSource_source echo htest hr]
  · rw [assumeSource_draining echo htest hr]
  · rw [assumeSource_isolated echo htest hr hl]
    exact ⟨_, rfl, (settle_same _).reply _ _ _ _ _,
      settle_hails (s := (s.withRole .source).withService { s.service with override := false }) rfl hl htest⟩
  · have hbegun := changeRole_draining hr
    have hqueue := hbegun.applyQueue
    have hrx := hbegun.rx
    have hwaits := hbegun.drainCheck_waits
    have hends := hbegun.drainCheck_ends htest
    obtain ⟨hwindows, hkept, hop, hoverride, hfaults⟩ := hbegun.drainCheck_keeps htest
    rw [assumeSource_sink echo htest hr]
    rw [← hkept] at hqueue hrx
    generalize (s.changeRole .draining).drainCheck = t at *
    refine ⟨_, rfl, hwindows, hqueue, hop, hoverride, hfaults, rfl, fun hup => ?_, fun lost hlost => ?_⟩
    · rw [if_pos hup] at hrx
      rw [State.reply, State.withService_rx, hrx]
      exact ⟨rfl, rfl, rfl, rfl, rfl⟩
    · subst hlost
      exact ⟨hwaits, hends⟩

end Sys2Proof.Machine
end

section
/-! Service messages and frames as the strings of bytes received: which command they are, and the layout of a response. -/

namespace Sys2Proof.Machine

/-! ### The sum of a message -/

theorem byteSum_append_one (l : List Byte) (b : Byte) : byteSum (l ++ [b]) = byteSum l + b := by simp [byteSum]

/-- The sum of a message is that of its bytes as numbers, modulo 256 (R167). -/
theorem toNat_byteSum (l : List Byte) : (byteSum l).toNat = (l.map BitVec.toNat).sum % 256 := by
  induction l using List.reverseRecOn with
  | nil => rfl
  | append_singleton l b ih =>
    rw [byteSum_append_one, BitVec.toNat_add, ih, List.map_append, List.sum_append]
    simp

theorem byteSum_eq_zero_iff (l : List Byte) : byteSum l = 0 ↔ (l.map BitVec.toNat).sum % 256 = 0 := by
  rw [← toNat_byteSum]
  exact BitVec.toNat_inj.symm

/-- The one check byte that completes a message is the one that makes the sum 0 (R167). -/
theorem byteSum_append_check (front : List Byte) (check : Byte) :
    byteSum (front ++ [check]) = 0 ↔ check = 0 - byteSum front := by
  rw [byteSum_append_one]
  bv_omega

/-! ### The whole-message check -/

theorem badMessageBytes_iff (l : List Byte) :
    badMessageBytes l = true ↔
      l.length < 4 ∨ l.length ≠ 4 + (l.getD 2 0).toNat ∨ (l.map BitVec.toNat).sum % 256 ≠ 0 := by
  rw [ne_eq (_ % 256), ← byteSum_eq_zero_iff]
  simp [badMessageBytes, or_assoc]

/-- The bytes of a message before its check byte (R167). -/
def messageFront (code echo : Byte) (args : List Byte) : List Byte := [code, echo, BitVec.ofNat 8 args.length] ++ args

theorem messageBytes_eq (code echo : Byte) (args : List Byte) :
    messageBytes code echo args = code :: echo :: BitVec.ofNat 8 args.length ::
      (args ++ [0 - byteSum (messageFront code echo args)]) := rfl

theorem toNat_lengthByte {args : List Byte} (h : args.length ≤ 255) :
    (BitVec.ofNat 8 args.length).toNat = args.length := by
  rw [BitVec.toNat_ofNat, Nat.mod_eq_of_lt (by omega)]

/-- A message with its own length and check byte passes the whole-message check (R168). -/
theorem messageBytes_not_bad (code echo : Byte) {args : List Byte} (h : args.length ≤ 255) :
    badMessageBytes (messageBytes code echo args) = false := by
  have hsum : byteSum (messageBytes code echo args) = 0 :=
    (byteSum_append_check (messageFront code echo args) _).2 rfl
  have hlength : (messageBytes code echo args).length = 4 + ((messageBytes code echo args).getD 2 0).toNat := by
    rw [messageBytes_eq]
    simp only [List.length_cons, List.length_append, List.length_nil, List.getD_cons_succ, List.getD_cons_zero]
    rw [toNat_lengthByte h]
    omega
  rw [← Bool.not_eq_true, badMessageBytes_iff]
  rintro (hshort | hwrong | hnonzero)
  · omega
  · exact hwrong hlength
  · exact hnonzero ((byteSum_eq_zero_iff _).1 hsum)

/-- The check byte of a message is settled by the bytes before it (R167). -/
theorem messageBytes_unique {code echo check : Byte} {args l : List Byte}
    (hl : l = messageFront code echo args ++ [check]) (hsum : (l.map BitVec.toNat).sum % 256 = 0) :
    l = messageBytes code echo args := by
  subst hl
  rw [(byteSum_append_check _ _).1 ((byteSum_eq_zero_iff _).2 hsum)]
  rfl

/-! ### Responses -/

theorem response_sum (r : ServiceResponse) : (r.bytes.map BitVec.toNat).sum % 256 = 0 := by
  rw [← byteSum_eq_zero_iff, ServiceResponse.bytes, byteSum_append_check]

/-! ### Frames -/

/-- A frame read as a SWEEP means all 64 bytes (R96). -/
theorem ofBytes_sweep_mask {l : List Byte} {d : DataFrame} (h : Frame.ofBytes l = some (.data d))
    (hk : d.kind = .sweep) : d.mask = fullMask := by
  cases l with
  | nil => exact nomatch h
  | cons b l =>
    cases hcode : FrameKind.ofCode (b.toNat / 8) with
    | none => rw [ofBytes_noKind l hcode] at h; exact nomatch h
    | some k =>
      rw [ofBytes_kind l hcode] at h
      have hfields := (Option.ite_none_right_eq_some.1 h).2
      cases k with
      | sweep => cases hfields; rfl
      | update => cases hfields; exact nomatch hk
      | mark => cases hfields; exact nomatch hk
      | hello =>
        rw [FrameKind.fields] at hfields
        split at hfields <;> exact nomatch hfields
      | _ => exact nomatch hfields

/-! ### The command of a message -/

theorem messageCommand_bad {l : List Byte} (h : badMessageBytes l = true) : messageCommand l = .badMessage l :=
  if_pos h

/-- A message is read as the command of its code with its echo and arguments (R167, R170). -/
theorem messageCommand_messageBytes (code echo : Byte) {args : List Byte} (h : args.length ≤ 255) :
    messageCommand (messageBytes code echo args) = codeCommand code echo args := by
  rw [messageCommand, messageBytes_not_bad code echo h, if_neg Bool.false_ne_true, messageBytes_eq]
  simp only [List.getD_cons_succ, List.getD_cons_zero, List.drop_succ_cons, List.drop_zero]
  rw [toNat_lengthByte h, List.take_left]

/-! ### The code of a command -/

/-- An assigned code is one of 1 to 19 (R170). -/
theorem assigned_eq_ofNat {code : Byte} (h : commandAssigned code = true) :
    ∃ k : Fin 19, code = BitVec.ofNat 8 (k.val + 1) := by
  rw [commandAssigned, Bool.and_eq_true, decide_eq_true_eq, decide_eq_true_eq] at h
  refine ⟨⟨code.toNat - 1, by omega⟩, ?_⟩
  rw [Nat.sub_add_cancel h.1, BitVec.ofNat_toNat, BitVec.setWidth_eq]

/-- A code that is not assigned is read as UNKNOWN_COMMAND (R168). -/
theorem codeCommand_unassigned {code : Byte} (echo : Byte) (args : List Byte) (h : commandAssigned code = false) :
    codeCommand code echo args = .unknownCommand echo code args := by
  unfold codeCommand
  split
  case h_20 => rfl
  all_goals
    rename_i hk
    simp [commandAssigned, hk] at h

/-- A code that is not assigned is none of the assigned ones. -/
theorem ne_of_unassigned {code : Byte} (h : commandAssigned code = false) (k : Byte)
    (hk : commandAssigned k = true) : code ≠ k := by
  rintro rfl
  exact Bool.false_ne_true (h.symm.trans hk)

theorem codeCommand_wellFormed (code echo : Byte) {args : List Byte} (h : args.length ≤ 255) :
    (codeCommand code echo args).wellFormed = true := by
  have hfit : argsFit args = true := decide_eq_true h
  by_cases hcode : commandAssigned code = true
  · obtain ⟨k, rfl⟩ := assigned_eq_ofNat hcode
    fin_cases k <;> exact hfit
  · rw [Bool.not_eq_true] at hcode
    rw [codeCommand_unassigned echo args hcode, Instr.wellFormed, hcode, hfit]
    rfl

/-- Whatever the maintenance bus delivers, the command it is can be given to the unit (R168). -/
theorem messageCommand_wellFormed (l : List Byte) : (messageCommand l).wellFormed = true := by
  by_cases h : badMessageBytes l = true
  · rw [messageCommand_bad h]
    exact h
  · rw [messageCommand, if_neg h]
    refine codeCommand_wellFormed _ _ ?_
    have hbyte := (l.getD 2 0).isLt
    rw [List.length_take]
    omega

/-! ### The command of a frame -/

theorem frameCommand_damaged {l : List Byte} (h : frameDamaged l = true) : frameCommand l = .damagedFrame l := by
  rw [frameCommand, Option.isNone_iff_eq_none.1 h]

/-- Whatever a lane delivers, the command it is can be given to the unit (R99, R100). -/
theorem frameCommand_wellFormed (l : List Byte) : (frameCommand l).wellFormed = true := by
  cases h : Frame.ofBytes l with
  | none =>
    have hdamaged : frameDamaged l = true := Option.isNone_iff_eq_none.2 h
    rw [frameCommand_damaged hdamaged]
    exact hdamaged
  | some f =>
    rw [frameCommand, h]
    cases f with
    | data d =>
      have hmask := ofBytes_sweep_mask h
      simp only [Instr.wellFormed, Bool.or_eq_true, bne_iff_ne, beq_iff_eq]
      exact or_iff_not_imp_left.2 fun hk => hmask (not_not.1 hk)
    | _ => rfl

/-- Settles O6: the check of a message by its length and sum, the code table, and frames as they are read back. -/
theorem receivedBytesAreReadAsCommands : Obligations.ReceivedBytesAreReadAsCommands := by
  refine ⟨fun l => ⟨badMessageBytes_iff l, messageCommand_bad⟩, fun code echo check args hargs => ?_,
    fun code echo args => ?_, fun r => ⟨_, rfl, response_sum r⟩, fun l => ⟨frameCommand_damaged, fun f hf hl => ?_⟩,
    fun l => ⟨frameCommand_wellFormed l, messageCommand_wellFormed l⟩⟩
  · exact ⟨messageBytes_not_bad code echo hargs, messageCommand_messageBytes code echo hargs,
      fun l hl => messageBytes_unique hl⟩
  · by_cases hcode : commandAssigned code = true
    · obtain ⟨k, rfl⟩ := assigned_eq_ofNat hcode
      fin_cases k <;> rfl
    · rw [Bool.not_eq_true] at hcode
      rw [codeCommand_unassigned echo args hcode]
      iterate 19 rw [if_neg (ne_of_unassigned hcode _ rfl)]
  · have hread : Frame.ofBytes l = some f := by
      rw [hl, toBytes_eq_framed]
      exact ofBytes_spareBody f hf 0 0 0 false
    rw [frameCommand, hread]
    cases f <;> rfl

end Sys2Proof.Machine
end

section
/-! The service port's own commands: messages that are only answered, the records returned, the events and the fault
list. -/

namespace Sys2Proof.Machine

/-! ### Messages that are only answered -/

/-- A message of two bytes or more is answered with the echo and code bytes received (R168). -/
theorem exec_badMessage {s : State} (code echo : Byte) (rest : List Byte) (h : Ready s) :
    exec (.badMessage (code :: echo :: rest)) s = .next (s.reply echo code .badMessage .noReason []) :=
  congrArg Host.Outcome.next ((take_ready _ h).trans (if_neg (by simp)))

theorem exec_badMessage_short {s : State} {bytes : List Byte} (h : Ready s) (hshort : bytes.length < 2) :
    exec (.badMessage bytes) s = .next (s.reply 0 0 .badMessage .noReason []) :=
  congrArg Host.Outcome.next ((take_ready _ h).trans (if_pos hshort))

theorem exec_unknownCommand {s : State} (echo code : Byte) (args : List Byte) (h : Ready s) :
    exec (.unknownCommand echo code args) s = .next (s.reply echo code .unknown .noReason []) :=
  congrArg Host.Outcome.next (take_ready _ h)

/-- Settles O7: every service command goes through `State.takeCommand`, which refuses another argument length. -/
theorem faultyMessagesAreOnlyAnswered : Obligations.FaultyMessagesAreOnlyAnswered := by
  refine ⟨fun echo args s h => ?_, fun code echo rest s h => exec_badMessage code echo rest h,
    fun bytes s h => exec_badMessage_short h, fun echo code args s h => exec_unknownCommand echo code args h⟩
  have hrefused (code : Byte) (taken : State → State) (hl : args.length ≠ argumentLength code.toNat) :
      (.next (s.takeCommand echo code args taken) : Host.Outcome State Fault Refusal) =
        .next (s.reply echo code .refused .value []) :=
    congrArg Host.Outcome.next (takeCommand_refused echo code args taken h hl)
  exact ⟨hrefused 1 _, hrefused 2 _, hrefused 3 _, hrefused 4 _, hrefused 5 _, hrefused 6 _, hrefused 7 _, hrefused 8 _,
    hrefused 9 _, hrefused 10 _, hrefused 11 _, hrefused 12 _, hrefused 13 _, hrefused 14 _, hrefused 15 _, hrefused 16 _,
    hrefused 17 _, hrefused 18 _, hrefused 19 _⟩

/-! ### The records returned -/

theorem beBytes_one (v : Nat) : beBytes 1 v = [BitVec.ofNat 8 v] := rfl

theorem beBytes_byte (b : Byte) : beBytes 1 b.toNat = [b] := by simp [beBytes_one]

theorem beBytes_two (v : Nat) : beBytes 2 v = [BitVec.ofNat 8 (v / 256), BitVec.ofNat 8 v] := rfl

/-- The 40-bit address of a line is its number times 64 (03, section 3.1). -/
theorem address_toNat (l : Line) : l.address.toNat = l.toNat * 64 := by
  have hl := l.isLt
  rw [Line.address, BitVec.toNat_ofNat, Nat.mod_eq_of_lt (by omega)]

theorem exec_getStatus {s : State} (echo : Byte) (h : Ready s) :
    exec (.getStatus echo []) s = .next (s.replyDone echo 1 s.statusBytes) :=
  congrArg Host.Outcome.next (takeCommand_taken echo 1 [] _ h rfl)

theorem exec_getMarks {s : State} (echo : Byte) (h : Ready s) :
    exec (.getMarks echo []) s =
      .next (s.replyDone echo 15 (s.seq.confirmedMark.confirmedBytes ++ s.rx.appliedMark.bytes)) :=
  congrArg Host.Outcome.next (takeCommand_taken echo 15 [] _ h rfl)

theorem exec_getStats {s : State} (echo : Byte) (h : Ready s) :
    exec (.getStats echo []) s = .next (s.replyDone echo 17 s.service.stats.bytes) :=
  congrArg Host.Outcome.next (takeCommand_taken echo 17 [] _ h rfl)

theorem markBytes_invalid {m : MarkRecord} (h : m.valid = false) : m.bytes = List.replicate 19 0 :=
  if_neg (by simp [h])

theorem markBytes_valid {m : MarkRecord} (h : m.valid = true) :
    m.bytes =
      [1] ++ beBytes 1 m.window.val ++ beBytes 5 (m.target.toNat * 64) ++ beBytes 1 m.wordIndex.val ++
        m.word.toList ++ beBytes 2 m.seq.toNat ++ [m.epoch] := by
  rw [MarkRecord.bytes, if_pos h, address_toNat, beBytes_byte]

theorem confirmedBytes_invalid {m : MarkRecord} (h : m.valid = false) : m.confirmedBytes = List.replicate 20 0 := by
  rw [MarkRecord.confirmedBytes, markBytes_invalid h, h]
  rfl

theorem confirmedBytes_valid {m : MarkRecord} (h : m.valid = true) :
    m.confirmedBytes =
      [1] ++ beBytes 1 m.window.val ++ beBytes 5 (m.target.toNat * 64) ++ beBytes 1 m.wordIndex.val ++
        m.word.toList ++ beBytes 2 m.seq.toNat ++ [m.epoch, if m.reported then 1 else 0] := by
  rw [MarkRecord.confirmedBytes, markBytes_valid h, h, Bool.true_and, List.append_assoc _ [m.epoch]]
  rfl

/-- Settles O8: each answer is its record byte by byte, on the state as it was. -/
theorem statusMarksAndStatsAreReturned : Obligations.StatusMarksAndStatsAreReturned := by
  refine ⟨fun echo s h => ?_, fun echo s h => ⟨⟨_, _, exec_getMarks echo h, confirmedBytes_invalid, confirmedBytes_valid,
    markBytes_invalid, markBytes_valid⟩, exec_getStats echo h⟩⟩
  rw [exec_getStatus echo h, State.statusBytes, sentCount_eq_countP, TestRecord.bytes]
  simp only [List.append_assoc]
  rfl

/-! ### Events -/

/-- A set of bits is nonempty exactly if one of its bits is set. -/
theorem ne_zero_iff_exists_bit {n : Nat} (x : BitVec n) : x ≠ 0 ↔ ∃ i < n, x.getLsbD i = true := by
  refine ⟨fun h => ?_, fun ⟨i, _, hi⟩ h => by simp [h] at hi⟩
  by_contra hnone
  refine h (BitVec.eq_of_getLsbD_eq fun i hi => ?_)
  have hbit : x.getLsbD i ≠ true := fun hset => hnone ⟨i, hi, hset⟩
  simpa using hbit

/-- Attention is asserted while a pending cause is not masked (R176). -/
theorem serviceAttention_iff (v : Service) :
    v.attention = true ↔ ∃ i < 14, v.events.getLsbD i = true ∧ v.mask.getLsbD i = false := by
  rw [Service.attention, bne_iff_ne, ne_zero_iff_exists_bit]
  refine exists_congr fun i => and_congr_right fun hi => ?_
  simp [hi]

theorem attention_iff (s : State) :
    s.attention = true ↔
      s.coldPin = false ∧ ∃ i < 14, s.service.events.getLsbD i = true ∧ s.service.mask.getLsbD i = false := by
  rw [State.attention, Bool.and_eq_true, Bool.not_eq_true', serviceAttention_iff]

theorem exec_readEvents {s : State} (echo : Byte) (h : Ready s) :
    exec (.readEvents echo []) s =
      .next ((s.withService { s.service with events := 0 }).replyDone echo 13 (beBytes 2 s.service.events.toNat)) :=
  congrArg Host.Outcome.next (takeCommand_taken echo 13 [] _ h rfl)

/-- The mask that two argument bytes carry: bits 14 and 15 are not examined (R174, R176). -/
theorem maskArg_bytes (hi lo : Byte) : BitVec.ofNat 14 (argNat [hi, lo] 0 2) = (hi ++ lo).setWidth 14 := by
  refine BitVec.eq_of_toNat_eq ?_
  rw [BitVec.toNat_setWidth, toNat_append_add]
  simp [argNat, beNat]

theorem maskBytes_returned (hi lo : Byte) : beBytes 2 ((hi ++ lo).setWidth 14).toNat = [hi &&& 0x3F, lo] := by
  have hhi := hi.isLt
  have hlo := lo.isLt
  have hlow : (hi &&& 0x3F).toNat = hi.toNat % 64 := Nat.and_two_pow_sub_one_eq_mod hi.toNat 6
  rw [beBytes_two, BitVec.toNat_setWidth, toNat_append_add]
  refine congrArg₂ (fun a b : Byte => [a, b]) (BitVec.eq_of_toNat_eq ?_) (BitVec.eq_of_toNat_eq ?_)
  · rw [hlow, BitVec.toNat_ofNat]
    omega
  · rw [BitVec.toNat_ofNat]
    omega

theorem exec_setMask {s : State} (echo hi lo : Byte) (h : Ready s) :
    exec (.setMask echo [hi, lo]) s =
      .next
        ((s.withService { s.service with mask := (hi ++ lo).setWidth 14 }).replyDone echo 12 [hi &&& 0x3F, lo]) := by
  rw [← maskBytes_returned, ← maskArg_bytes]
  exact congrArg Host.Outcome.next (takeCommand_taken echo 12 [hi, lo] _ h rfl)

/-- Settles O10: the bits by the table, the two commands as they are taken, and the line bit by bit. -/
theorem eventsAreReadAndMasked : Obligations.EventsAreReadAndMasked :=
  ⟨⟨rfl, rfl, rfl, rfl, rfl, rfl, rfl, rfl, rfl, rfl, rfl, rfl, rfl, rfl⟩, fun _ _ => rfl,
    fun echo _ h => exec_readEvents echo h, fun echo hi lo _ h => exec_setMask echo hi lo h, attention_iff⟩

/-! ### The fault list -/

/-- A list with room takes the record, and FAULT_LOGGED joins the pending set (R177). -/
theorem offer_appends {v : Service} (r : FaultRecord) (h : v.faults.length < 8) :
    v.offer r = { v with faults := v.faults ++ [r], events := v.events ||| 1#14 <<< 13 } := if_pos h

/-- A full list drops the record and sets the overrun flag; FAULT_LOGGED joins the pending set (R177). -/
theorem offer_overruns {v : Service} (r : FaultRecord) (h : 8 ≤ v.faults.length) :
    v.offer r = { v with overrun := true, events := v.events ||| 1#14 <<< 13 } := if_neg (Nat.not_lt.2 h)

theorem exec_readFault {s : State} (echo : Byte) (h : Ready s) :
    exec (.readFault echo []) s = .next (s.readFault echo) :=
  congrArg Host.Outcome.next (takeCommand_taken echo 14 [] _ h rfl)

theorem readFault_empty {s : State} (echo : Byte) (h : s.service.faults = []) :
    s.readFault echo =
      s.reply echo 14 .refused .empty (List.replicate 16 0 ++ [if s.service.overrun then 1 else 0, 0]) := by
  rw [State.readFault, h]
  rfl

/-- The oldest record leaves the list and is returned; the flag goes with the last one (R178). -/
theorem readFault_oldest {s : State} (echo : Byte) {r : FaultRecord} {rest : List FaultRecord}
    (h : s.service.faults = r :: rest) :
    s.readFault echo =
      (s.withService { s.service with faults := rest, overrun := !rest.isEmpty && s.service.overrun }).reply echo 14
        .done .noReason (r.bytes ++ [if s.service.overrun then 1 else 0] ++ [BitVec.ofNat 8 rest.length]) := by
  rw [State.readFault, h]
  cases rest <;> rfl

/-- The byte that says which fields a record has: one bit for each (R178). -/
theorem presentFields_eq (w l q e : Bool) :
    ((if w then 1 else 0) + (if l then 2 else 0) + (if q then 4 else 0) + (if e then 8 else 0)) =
      w.toNat + 2 * l.toNat + 4 * q.toNat + 8 * e.toNat := by
  cases w <;> cases l <;> cases q <;> cases e <;> rfl

theorem faultLine_toNat (l : Option Line) :
    (l.map fun l => l.address.toNat).getD 0 = (l.map fun l => l.toNat * 64).getD 0 := by
  simp only [address_toNat]

/-- The sixteen bytes of a record, with the line as a byte address (R178). -/
theorem faultBytes_eq (r : FaultRecord) :
    r.bytes =
      [r.kind.code,
        BitVec.ofNat 8
          (r.window.isSome.toNat + 2 * r.line.isSome.toNat + 4 * r.seq.isSome.toNat + 8 * r.epoch.isSome.toNat)] ++
        beBytes 4 r.time.toNat ++ beBytes 1 ((r.window.map Fin.val).getD 0) ++
        beBytes 5 ((r.line.map fun l => l.toNat * 64).getD 0) ++ beBytes 2 ((r.seq.map BitVec.toNat).getD 0) ++
        beBytes 1 ((r.epoch.map BitVec.toNat).getD 0) ++ [0] := by
  rw [FaultRecord.bytes, presentFields_eq, faultLine_toNat]

/-- Settles O11: an offer by the room in the list, and READ_FAULT by its oldest record. -/
theorem faultListKeepsAndReturnsRecords : Obligations.FaultListKeepsAndReturnsRecords := by
  refine ⟨fun s kind w l q e => ⟨fun h => ?_, fun h => ?_⟩, fun echo s hready => ⟨fun r rest h _ => ?_, fun h => ?_⟩⟩
  · rw [State.offerFault, offer_appends _ h]
  · rw [State.offerFault, offer_overruns _ h]
  · rw [exec_readFault echo hready, readFault_oldest echo h, faultBytes_eq]
    rfl
  · rw [exec_readFault echo hready, readFault_empty echo h]

end Sys2Proof.Machine
end

section
/-! The state after reset and the invariants. -/

namespace Sys2Proof.Machine

theorem coldValues_reset : ColdValues State.reset := coldResetSetsEveryField.1.1

theorem ColdValues.linkRecordInv {s : State} (hs : SessionInv s) (h : ColdValues s) : LinkRecordInv s :=
  (linkRecordInv_iff hs).2 ⟨h.linkTimes, h.sendTimes⟩

/-- An empty journal with an idle port is in order. -/
theorem ColdValues.journalInv {s : State} (h : ColdValues s) : JournalInv s := by
  obtain ⟨-, -, -, -, hport, hjournal, -⟩ := h
  have hidle : ¬ s.port.sweeping := by rw [hport]; exact id
  unfold JournalInv Journal.sentCount
  rw [hjournal]
  exact ⟨Nat.zero_le _, trivial, .nil, Nat.zero_le _, nofun, nofun, fun h => absurd h hidle⟩

theorem ColdValues.capacityInv {s : State} (h : ColdValues s) : CapacityInv s := by
  obtain ⟨-, -, -, -, hport, -, -, -, -, -, -, -, -, -, -, -, -, -, -, -, -, hqueue, hreports, -, -, hservice, -⟩ := h
  have hhead : s.headOnPort = false := by rw [State.headOnPort, hport]
  unfold CapacityInv
  rw [hqueue, hreports, hhead, hservice, hport]
  exact ⟨Nat.zero_le _, Nat.zero_le _, nofun, Nat.zero_le _, nofun, Nat.zero_le _⟩

theorem ColdValues.timersInv {s : State} (h : ColdValues s) : TimersInv s := by
  obtain ⟨-, -, -, -, -, -, -, -, -, -, -, -, -, -, -, -, -, -, -, -, -, -, -, -, -, hservice, -⟩ := h
  unfold TimersInv
  rw [hservice]
  exact ⟨rfl, rfl⟩

/-- With no request, no operation, no record and no entry no tag is in use. -/
theorem ColdValues.tagInv {s : State} (h : ColdValues s) : TagInv s := by
  obtain ⟨hqueue, hheld, htags, -, hport, hjournal, -⟩ := h
  unfold TagInv State.queueTags State.portTags State.heldTags
  rw [hqueue, hheld, htags, hport, hjournal]
  exact ⟨.nil, .nil, .nil⟩

/-- Settles O51: the cold reset values meet each invariant, and `State.reset` holds them. -/
theorem resetMeetsEveryInvariant : Obligations.ResetMeetsEveryInvariant := by
  have hcold := coldValues_reset
  exact ⟨sessionInv_reset, hcold.linkRecordInv sessionInv_reset, hcold.testInv, hcold.sinkInv, hcold.journalInv,
    hcold.capacityInv, hcold.timersInv, windowsInv_reset, dirtyInv_reset, sweepInv_reset, hcold.tagInv, fun _ => hcold,
    hcold.settled⟩

end Sys2Proof.Machine
end

section
/-! The step that takes a command from the queue; `step_idle`, `step_single` and `step_chosen` say what an empty queue
leaves to the unit. -/

namespace Sys2Proof.Machine

theorem step_front {s : State} {c : Instr} {rest : List Instr} (hq : s.pending = c :: rest) :
    step s = exec c (s.withPending rest) := by
  unfold step
  rw [hq]

/-- Settles O1: the queue decides the branch that a step takes, and its front is the command that runs. -/
theorem stepRunsTheFrontCommand : Obligations.StepRunsTheFrontCommand := by
  intro c rest s hq
  exact step_front hq

end Sys2Proof.Machine
end
